-- ==== Sys2Proof/Word.lean ====
section
/-!
DEFINITION. The plainest data of the model: bytes on the wires, the index types of the spec (slots 0 to 7, stages 0 to 3,
points 0 to 7, channels 0 to 15, zones 0 to 3: 00_scope.md, section 3.1), and the banks that hold one entry per index.
-/

namespace Sys2Proof

/-- A byte as it travels on a sensor line or on the station link (R198). -/
abbrev Byte := BitVec 8

/-- A sensor channel, 0 to 15. -/
abbrev ChannelId := Fin 16
/-- A monitoring point, 0 to 7. -/
abbrev PointId := Fin 8
/-- A stage, 0 to 3. -/
abbrev StageId := Fin 4
/-- A slot of the station link, 0 to 7. -/
abbrev SlotId := Fin 8
/-- A limit zone, 0 to 3. -/
abbrev ZoneId := Fin 4

/-- A bank: one entry for each index below `n`. -/
structure Bank (n : Nat) (α : Type) where
  cells : Vector α n
  deriving DecidableEq, Repr

/-- Entry `k` of a bank. -/
def Bank.get {n : Nat} {α : Type} (b : Bank n α) (k : Fin n) : α := b.cells[k]

/-- The bank with entry `k` replaced by `x`. -/
def Bank.set {n : Nat} {α : Type} (b : Bank n α) (k : Fin n) (x : α) : Bank n α := ⟨b.cells.set k.1 x k.2⟩

/-- The bank whose entry at `k` is `f k`. -/
def Bank.tabulate {n : Nat} {α : Type} (f : Fin n → α) : Bank n α := ⟨⟨⟨List.ofFn f⟩, by simp⟩⟩

/-- The bank with `x` in every entry. -/
def Bank.fill (n : Nat) {α : Type} (x : α) : Bank n α := ⟨Vector.replicate n x⟩

/-- Every entry of a bank renewed from its index and its old value. -/
def Bank.renew {n : Nat} {α β : Type} (b : Bank n α) (f : Fin n → α → β) : Bank n β :=
  Bank.tabulate fun i => f i (b.get i)

@[simp] theorem Bank.get_tabulate {n : Nat} {α : Type} (f : Fin n → α) (k : Fin n) : (Bank.tabulate f).get k = f k := by
  simp [Bank.tabulate, Bank.get]

@[simp] theorem Bank.get_renew {n : Nat} {α β : Type} (b : Bank n α) (f : Fin n → α → β) (k : Fin n) :
    (b.renew f).get k = f k (b.get k) := by
  simp [Bank.renew]

@[simp] theorem Bank.get_fill {n : Nat} {α : Type} (x : α) (k : Fin n) : (Bank.fill n x).get k = x := by
  simp [Bank.fill, Bank.get]

@[simp] theorem Bank.get_set_self {n : Nat} {α : Type} (b : Bank n α) (k : Fin n) (x : α) : (b.set k x).get k = x := by
  simp [Bank.set, Bank.get]

theorem Bank.get_set_ne {n : Nat} {α : Type} (b : Bank n α) {k i : Fin n} (x : α) (h : i ≠ k) :
    (b.set k x).get i = b.get i := by
  have hk : k.1 ≠ i.1 := fun e => h (Fin.ext e.symm)
  simpa [Bank.set, Bank.get] using Vector.getElem_set_ne (xs := b.cells) (x := x) k.2 i.2 hk

theorem Bank.get_set {n : Nat} {α : Type} (b : Bank n α) (k i : Fin n) (x : α) :
    (b.set k x).get i = if i = k then x else b.get i := by
  by_cases h : i = k
  · subst h; simp
  · simp [h, Bank.get_set_ne b x h]

theorem Bank.ext_get {n : Nat} {α : Type} {a b : Bank n α} (h : ∀ k, a.get k = b.get k) : a = b := by
  obtain ⟨a⟩ := a
  obtain ⟨b⟩ := b
  congr
  exact Vector.ext fun i hi => h ⟨i, hi⟩

/-- The eight points in the order in which every rule goes through them, "from 0 to 7" (R38, R54). -/
def allPoints : List PointId := [0, 1, 2, 3, 4, 5, 6, 7]
/-- The four stages, "from 0 to 3" (R38, R136). -/
def allStages : List StageId := [0, 1, 2, 3]
/-- The eight slots in slot order (R185). -/
def allSlots : List SlotId := [0, 1, 2, 3, 4, 5, 6, 7]
/-- The sixteen channels in ascending index. -/
def allChannels : List ChannelId := [0, 1, 2, 3, 4, 5, 6, 7, 8, 9, 10, 11, 12, 13, 14, 15]

theorem mem_allPoints (k : PointId) : k ∈ allPoints := by revert k; decide
theorem mem_allStages (t : StageId) : t ∈ allStages := by revert t; decide
theorem mem_allSlots (k : SlotId) : k ∈ allSlots := by revert k; decide
theorem mem_allChannels (c : ChannelId) : c ∈ allChannels := by revert c; decide

end Sys2Proof
end

