-- ==== Sys2Proof/Syntax.lean ====
section
/-!
DEFINITION. The commands of the Sartel SE-48: ONE constructor for each row of spec/opcode_table.json, in the table's order.
A command is an event of the part (a timer expiry, a head frame, an edge of a request line, a close of the frame timer) or a
request of the station link. A request carries the parameter bytes of its frame as they travelled (R201, R202); its sender is
the slot that holds the link grant, which the state knows.
-/

namespace Sys2Proof

/-- One character received on a sensor line or on the link: its byte and whether its stop bit read low (R15, R179). -/
structure RxChar where
  /-- The eight data bits. -/
  byte : Byte
  /-- A framing error: the stop bit read low. -/
  framingError : Bool
  deriving DecidableEq, Repr

/-- The commands of the part, one constructor per row of the table. -/
inductive Instr where
  /-- A frame candidate ends on sensor line `ch` (R15). -/
  | frameArrival (ch : ChannelId) (cand : List RxChar)
  /-- The silence timer of channel `ch` expires (R21). -/
  | silenceTimerExpiry (ch : ChannelId)
  /-- The integrator's frame timer expires (R37, R38). -/
  | frameBoundary
  /-- The frame boundary at which the session frame count reaches 0 (R49, R85). -/
  | sessionEnd
  /-- The frame boundary that is a second close (R37, R55). -/
  | secondClose
  /-- The frame boundary that is a minute close (R37, R46). -/
  | minuteClose
  /-- The frame boundary that is an interval close (R37, R59). -/
  | intervalClose
  /-- The allocation pass in flight completes and the grant unit takes its result (R113, R136). -/
  | passResult
  /-- The compliance timer of a stage expires (R146). -/
  | complianceTimerExpiry (stage : StageId)
  /-- The hold-minimum timer of a stage expires (R148). -/
  | holdMinimumExpiry (stage : StageId)
  /-- The clock's one-second tick (R63). -/
  | clockAdvance
  /-- The clock advance that is a clock minute boundary (R63). -/
  | clockMinuteBoundary
  /-- The store's write completes (R195). -/
  | saveCompletion
  /-- Supply is applied, or NPOR is released (R196). -/
  | powerUp
  /-- The command reset, which takes effect when the response to RESET ends (R197). -/
  | commandReset
  /-- The request line of a slot becomes asserted (R181). -/
  | requestLineAsserted (slot : SlotId)
  /-- The request line of a slot is released (R181). -/
  | requestLineReleased (slot : SlotId)
  /-- The 200 µs window of the parked slot expires without a frame (R183). -/
  | parkedWindowExpiry
  /-- The parked slot begins a frame (R183). -/
  | parkedFrameStart
  /-- No frame began within 200 µs of a grant (R179). -/
  | grantWindowExpiry
  /-- The parameter length field received gives a frame longer than 64 bytes (R179, R201). -/
  | frameLengthExcess (length : Byte)
  /-- The frame is not complete 1 ms after its start (R179). -/
  | frameTimeLimit
  /-- A frame ends, complete, with a framing error, a CRC mismatch or a wrong slot field (R179). -/
  | badFrameEnd (chars : List RxChar)
  /-- The pair has been idle for 20 µs after a miss for a long or unfinished frame (R178). -/
  | linkIdleGap
  /-- The response frame ends (R178). -/
  | responseEnd
  /-- A good frame whose request code names no request (R188). -/
  | unknownRequest (code : Byte) (params : List Byte)
  | statusRead (params : List Byte)
  | levelsRead (params : List Byte)
  | noticeEnable (params : List Byte)
  | grantQuery (params : List Byte)
  | grantAck (params : List Byte)
  | sessionOpen (params : List Byte)
  | sessionClose (params : List Byte)
  | pointWrite (params : List Byte)
  | stageWrite (params : List Byte)
  | channelBind (params : List Byte)
  | shareWrite (params : List Byte)
  | couplingWrite (params : List Byte)
  | couplingRead (params : List Byte)
  | surveyStart (params : List Byte)
  | surveyAbort (params : List Byte)
  | surveyAccept (params : List Byte)
  | surveyDiscard (params : List Byte)
  | surveyRead (params : List Byte)
  | schedRead (params : List Byte)
  | schedWrite (params : List Byte)
  | schedClear (params : List Byte)
  | schedCommit (params : List Byte)
  | sessionLimitWrite (params : List Byte)
  | fallbackWrite (params : List Byte)
  | timeSet (params : List Byte)
  | roleWrite (params : List Byte)
  | dispatchWrite (params : List Byte)
  | holdForce (params : List Byte)
  | holdUnforce (params : List Byte)
  | recordRead (params : List Byte)
  | recordRelease (params : List Byte)
  | arbWrite (params : List Byte)
  | arbClear (params : List Byte)
  | timingWrite (params : List Byte)
  | storeSave (params : List Byte)
  | reset (params : List Byte)
  /-- The receiver of sensor line `ch` finds its first idle gap after a reset (R15). -/
  | receiverIdleGap (ch : ChannelId)
  /-- Supply is removed (R195). -/
  | lossOfPower
  deriving DecidableEq, Repr

end Sys2Proof
end

