-- ==== Sys2Proof/Decode.lean ====
section
/-!
DEFINITION. The command that a word spells by the table's bits. No row of spec/opcode_table.json has a bit field, so no word spells a
command; the commands of the link travel as frames, which Machine/Frames.lean writes and reads.
-/

namespace Sys2Proof

/-- The command a word of `nbits` bits spells: none, for the table gives no row any bits. -/
def decodeTableWord (_nbits _w : Nat) : Option Instr := none

end Sys2Proof
end

