-- ==== Sys2Proof/Machine/Settings.lean ====
section
/-!
DEFINITION. The stored settings of the part (R194), each as its owning chapter specifies it: what the blocks work from, what the
image holds and what a save copies.
-/

namespace Sys2Proof.Machine

/-- A binding of the channel map (R25). -/
inductive Binding where
  | unused
  | primary (k : PointId)
  | standby (k : PointId)
  | reference (t : StageId)
  deriving DecidableEq, Repr

/-- One entry of the channel map: the binding and the expected identity, 0 where the head is to be learned (R25). -/
structure MapEntry where
  binding : Binding
  expected : Nat
  deriving DecidableEq, Repr

/-- The stored fields of a point record (R28). -/
structure PointSettings where
  enabled : Bool
  zone : ZoneId
  /-- Codes from −1000 to +1000. -/
  standbyOffset : Int
  /-- Level code, 3000 to 13000. -/
  substitute : Nat
  deriving DecidableEq, Repr

/-- The stored fields of a stage record (R114). -/
structure StageSettings where
  enabled : Bool
  floor : Nat
  top : Nat
  idle : Nat
  /-- In 256ths. -/
  share : Nat
  deriving DecidableEq, Repr

/-- A window limit with its length in minutes (R66). -/
structure Window where
  lw : Nat
  n : Nat
  deriving DecidableEq, Repr

/-- The limits of one zone: an optional fast limit and an optional window limit (R66). -/
structure ZoneLimits where
  lf : Option Nat
  window : Option Window
  deriving DecidableEq, Repr

/-- The kind of a period (R66). -/
inductive PeriodKind where
  | opened
  | stop
  deriving DecidableEq, Repr

/-- A period record (R66). -/
structure Period where
  start : Nat
  kind : PeriodKind
  ramp : Nat
  zones : Bank 4 ZoneLimits
  deriving DecidableEq, Repr

/-- A session allowance table (R81). -/
structure Allowance where
  ls : Bank 4 (Option Nat)
  latestEnd : Nat
  deriving DecidableEq, Repr

/-- The role of a slot; the stage is kept for PRODUCTION only (R186). -/
inductive Role where
  | unassigned
  | authority
  | operator
  | production (stage : StageId)
  | observer
  deriving DecidableEq, Repr

/-- The treatment of unauthorized requests (R186, R188). -/
inductive Treatment where
  | drop
  | refuse
  | demote
  deriving DecidableEq, Repr

/-- One entry of the station table (R186). -/
structure Station where
  role : Role
  authorized : Bool
  treatment : Treatment
  deriving DecidableEq, Repr

/-- A role mask of the dispatch table: any subset of the four roles (R171). -/
structure RoleMask where
  authority : Bool
  operator : Bool
  production : Bool
  observer : Bool
  deriving DecidableEq, Repr

/-- The park mode of the arbiter (R183). -/
inductive ParkMode where
  | last
  | default
  deriving DecidableEq, Repr

/-- The arbiter settings (R184). -/
structure ArbiterSettings where
  isolation : Bool
  park : ParkMode
  defaultSlot : SlotId
  deriving DecidableEq, Repr

/-- The nine global timing and rate settings (R193). -/
structure Timing where
  /-- Bucket depth D_F, frames. -/
  depth : Nat
  /-- Release horizon D_R, frames. -/
  horizon : Nat
  downRate : Nat
  upRate : Nat
  /-- Compliance deadline, seconds. -/
  deadline : Nat
  /-- Hold minimum, seconds. -/
  holdMinimum : Nat
  overrunMargin : Nat
  overrunCount : Nat
  /-- Attention threshold of the record ring. -/
  threshold : Nat
  deriving DecidableEq, Repr

/-- Every stored setting of the part (R194): what the blocks work from, what the image holds and what a save copies. -/
structure Settings where
  channelMap : Bank 16 MapEntry
  points : Bank 8 PointSettings
  stages : Bank 4 StageSettings
  /-- K_sk, `none` for UNSET (R90). -/
  coupling : Bank 4 (Bank 8 (Option Int))
  schedule : List Period
  allowance : Allowance
  fallback : Bank 4 ZoneLimits
  stations : Bank 8 Station
  /-- Role masks by class, priority 1 first (R170, R171). -/
  dispatch : Bank 10 RoleMask
  arbiter : ArbiterSettings
  timing : Timing
  deriving DecidableEq, Repr

end Sys2Proof.Machine
end

