-- ==== Sys2Proof/Config.lean ====
section
/-!
DEFINITION. What the spec leaves open: the FREE VALUES. Each is an opaque constant without a body, so no proof can see what it
is and every claim holds whatever it is. The assumption log says where each is read.
-/

namespace Sys2Proof

/-- What a power-on reset by NPOR finds in the store when it falls into a save in progress (assumption 7). -/
inductive ImageFate where
  /-- The old image stands, the save is forgotten. -/
  | kept
  /-- The image being written stands whole. -/
  | replaced
  /-- The image fails its check. -/
  | failing
  deriving DecidableEq, Repr, Inhabited

/-- When the engine takes a second snapshot and starts its pass on it (R101, R110, R112; assumptions 4, 25). -/
inductive PassStart where
  /-- Within the second close, before the survey counts the snapshot. -/
  | beforeSurvey
  /-- Within the second close, after the survey has counted it. -/
  | afterSurvey
  /-- After the second close, so that other events may come between. -/
  | later
  deriving DecidableEq, Repr, Inhabited

/-- FREE VALUE, drawn. The `n`-th choice between two orders that the spec leaves open ("fall in either order": R163).
The argument is the model's own counter `State.draws` (assumptions 5, 6). -/
opaque Config.freeOrder : Nat → Bool

/-- FREE VALUE, drawn. When the engine takes the snapshot of a second close (R101, R110, R112; assumptions 4, 25). -/
opaque Config.passStart : Nat → PassStart

/-- FREE VALUE, drawn. Whether a snapshot that the engine has not yet taken outlives a command reset: by R112 a reset may fall
between the second close and the pass start, by R111 and R133 the first pass after it starts at the next second close
(assumption 34). -/
opaque Config.snapshotOutlivesReset : Nat → Bool

/-- FREE VALUE. What the owner of a request makes of a one-byte flag parameter that is neither 0 nor 1: `none` is a refusal
PARAM, `some b` a flag read as `b`. The spec says only "a flag is 0 clear, 1 set" (R198; assumption 8). The enabled byte of
POINT_WRITE, whose range R28 gives, does not read it. -/
opaque Config.flagByte : Byte → Option Bool

/-- FREE VALUE, drawn. The fate of the image for an NPOR release during a save (R195, R196; assumption 7). -/
opaque Config.imageAfterNpor : Nat → ImageFate

/-- FREE VALUE. The 32-bit check value computed over all the settings of an image (R194): the spec gives no algorithm
(assumption 10). -/
opaque Config.imageCheck : Machine.Settings → BitVec 32

/-- FREE VALUE, drawn. What a save that did not complete leaves as the check value, but for the one value that would match
(R195; assumption 10). -/
opaque Config.tornCheck : Nat → BitVec 32

end Sys2Proof
end

