-- ==== Sys2Proof/Machine/Levels.lean ====
section
/-!
DEFINITION. Level codes and powers (01_level_and_energy_arithmetic.md): `p` takes a level expression to a power, `lv` a power to a
level code, both exact in integers. Energies and powers are naturals, remainders and buckets integers: by R10 and R11 no
accumulator of the part wraps.
-/

namespace Sys2Proof.Machine

/-- The greatest `r = acc + c` with `c < 2 ^ bits` and `r ^ k ≤ t`, found bit by bit from the highest. -/
def rootFloor (k t : Nat) : Nat → Nat → Nat
  | 0, acc => acc
  | b + 1, acc => if (acc + 2 ^ b) ^ k ≤ t then rootFloor k t b (acc + 2 ^ b) else rootFloor k t b acc

/-- A level expression clamped to the convertible range [3000, 13000] and counted from 3000 (R5, step 1). -/
def aboveThirty (l : Int) : Nat := (max 3000 (min 13000 l) - 3000).toNat

/-- p(L), R5: 10^((L − 3000)/1000) rounded half up. `rootFloor` gives the whole part of twice that number, the 1000th root of
2^1000 · 10^(L − 3000); half of it plus one half, floored, is the rounding. Below 2^35, because 2 · 10^10 is. -/
def p (l : Int) : Nat := (rootFloor 1000 (2 ^ 1000 * 10 ^ aboveThirty l) 35 0 + 1) / 2

/-- The greatest `d = acc + c` with `c < 2 ^ bits` and 10^(2d − 1) ≤ y, found bit by bit from the highest. -/
def logFloor (y : Nat) : Nat → Nat → Nat
  | 0, acc => acc
  | b + 1, acc => if 10 ^ (2 * (acc + 2 ^ b) - 1) ≤ y then logFloor y b (acc + 2 ^ b) else logFloor y b acc

/-- Lv(x), R6, in its boundary form: the greatest L with L = 3000 or x ≥ 10^((L − 3000 − 0.5)/1000), that is
x^2000 ≥ 10^(2(L − 3000) − 1); 3000 for x below 1, and 13000 from 10^10 on. -/
def lv (x : Int) : Nat :=
  if x < 1 then 3000 else if 10 ^ 10 ≤ x then 13000 else 3000 + logFloor (x.toNat ^ 2000) 14 0

/-- The mean power of `n` frames (R12). -/
def mean (energy n : Nat) : Nat := energy / n

/-- "Clamp to [a, b]" (00_scope.md, section 3.2). -/
def clampTo (a b x : Nat) : Nat := if x < a then a else if b < x then b else x

/-- "Clamp to [a, b]" of a signed value. -/
def clampInt (a b x : Int) : Int := if x < a then a else if b < x then b else x

end Sys2Proof.Machine
end

