-- ==== Sys2Proof/Machine/State.lean ====
section
/-!
DEFINITION. The state of the SE-48 as plain data, block by block as 00_scope.md, section 2 lists the blocks, and the state
right after reset. INVENTORY.md names the rule and the reset value of every field.
-/

namespace Sys2Proof.Machine

/-! ### Sensor ports and point and stage map -/

/-- The state of a channel (R17). -/
inductive ChannelState where
  | unbound
  | settling
  | live
  | calibrating
  | stale
  | faulted
  deriving DecidableEq, Repr

/-- A channel's frame slot (R23). -/
structure FrameSlot where
  aSum : Nat
  cSum : Nat
  count : Nat
  overload : Nat
  gap : Nat
  deriving DecidableEq, Repr

/-- A slot that has been emptied (R24). -/
def FrameSlot.empty : FrameSlot := ⟨0, 0, 0, 0, 0⟩

/-- A channel record (R17), with its receiver's progress after a reset (R15). -/
structure Channel where
  state : ChannelState
  /-- Accepted identity, 0 while not yet learned. -/
  accepted : Nat
  lastSeq : Option Nat
  goodCount : Nat
  badRun : Nat
  /-- The silence timer runs. -/
  silence : Bool
  la : Nat
  lc : Nat
  slot : FrameSlot
  /-- The receiver has found its first idle gap since the reset. -/
  receiving : Bool
  deriving DecidableEq, Repr

/-- The source state of a point (R28). -/
inductive Source where
  | primary
  | standby
  | blind
  | disabled
  deriving DecidableEq, Repr

/-- What the map keeps of a point beside its settings: its source and its held power (R28, R30). -/
structure PointView where
  source : Source
  heldA : Nat
  heldC : Nat
  deriving DecidableEq, Repr

/-- A stage reference: seeing or blind, and its held A power (R32). -/
structure RefView where
  seeing : Bool
  held : Nat
  deriving DecidableEq, Repr

/-- The point and stage map's own state. -/
structure PointMap where
  points : Bank 8 PointView
  refs : Bank 4 RefView
  deriving DecidableEq, Repr

/-! ### Exposure integrator -/

/-- The bucket of the fast tier: a signed number, or the mark FULL while LF is absent (R43). -/
inductive Bucket where
  | full
  | amount (b : Int)
  deriving DecidableEq, Repr

/-- The three tiers of a point (R42). -/
inductive Tier where
  | fast
  | window
  | session
  deriving DecidableEq, Repr

/-- An exceedance episode (R52). -/
structure Episode where
  start : Nat
  peak : Option Nat
  frames : Nat
  deriving DecidableEq, Repr

/-- The session limit of a point while a session is open: LS and S_tot (R48). -/
structure SessionLimit where
  ls : Nat
  total : Nat
  deriving DecidableEq, Repr

/-- The integrator's state of one point. A tier is CLEAR where its episode is `none` (R52). -/
structure PointExposure where
  secondSum : Nat
  /-- Blind count of the second under way (R55). -/
  secondBlind : Nat
  /-- The current minute bin. -/
  bin : Nat
  /-- The 60 complete bins, oldest first (R46). -/
  ring : Bank 60 Nat
  bucket : Bucket
  /-- The session accumulator E_S. -/
  eS : Nat
  sessionLimit : Option SessionLimit
  intervalA : Nat
  intervalC : Nat
  intervalBlind : Nat
  intervalOverload : Nat
  intervalGap : Nat
  intervalMax : Option Nat
  /-- Latest one-second level. -/
  latest : Nat
  fastEp : Option Episode
  windowEp : Option Episode
  sessionEp : Option Episode
  deriving DecidableEq, Repr

/-- The integrator's state of one stage (R40, R56). -/
structure StageExposure where
  secondSum : Nat
  seeingCount : Nat
  latest : Nat
  lastSeeing : Bool
  deriving DecidableEq, Repr

/-- The exposure integrator. -/
structure Integrator where
  phase : Nat
  points : Bank 8 PointExposure
  stages : Bank 4 StageExposure
  /-- Session frames still to come, f_S. -/
  sessionFrames : Nat
  deriving DecidableEq, Repr

/-- A stage's second: blind, or seeing with its level L_s (R56). -/
inductive Second where
  | blind
  | seeing (ls : Nat)
  deriving DecidableEq, Repr

/-- A point's part of the second snapshot (R57). -/
structure SnapPoint where
  enabled : Bool
  zone : ZoneId
  /-- m_k, absent for a disabled point. -/
  power : Option Nat
  energy : Nat
  blind : Nat
  bucket : Bucket
  nUsed : Nat
  sPrev : Nat
  eCur : Nat
  eS : Nat
  deriving DecidableEq, Repr

/-- A stage's part of the second snapshot (R57). -/
structure SnapStage where
  second : Second
  energy : Nat
  deriving DecidableEq, Repr

/-- The second snapshot (R57). -/
structure Snapshot where
  f : Nat
  sessionOpen : Bool
  fS : Nat
  points : Bank 8 SnapPoint
  stages : Bank 4 SnapStage
  deriving DecidableEq, Repr

/-! ### Schedule unit -/

/-- A clock time (00_scope.md, section 3.1). -/
structure Time where
  day : Nat
  secs : Nat
  valid : Bool
  deriving DecidableEq, Repr

/-- The limits in force (R70). -/
structure Limits where
  /-- The index of the period in force, or `none` for FALLBACK. -/
  source : Option Nat
  zones : Bank 4 ZoneLimits
  /-- The start minute of the STOP period in force. -/
  stop : Option Nat
  deriving DecidableEq, Repr

/-- An open session (R83). -/
structure Session where
  slot : SlotId
  endMinute : Nat
  fS : Nat
  ls : Bank 4 (Option Nat)
  deriving DecidableEq, Repr

/-- The schedule unit's working state. -/
structure ScheduleUnit where
  clock : Time
  pendingList : List Period
  pendingAllowance : Allowance
  commit : Bool
  limits : Limits
  session : Option Session
  deriving DecidableEq, Repr

/-- The next STOP start (R73): its distance in seconds, its ramp minutes and its start minute. -/
structure NextStop where
  t : Nat
  ramp : Nat
  minute : Nat
  deriving DecidableEq, Repr

/-- The curfew information (R73). -/
structure CurfewInfo where
  stop : Bool
  next : Option NextStop
  deriving DecidableEq, Repr

/-! ### Coupling survey -/

/-- The state of the survey (R94). -/
inductive SurveyState where
  | idle
  | quiet
  | signal
  | done
  | aborted
  deriving DecidableEq, Repr

/-- Why a survey was abandoned (R94). -/
inductive SurveyReason where
  | notQuiet
  | channelLost
  | interference
  | weakSignal
  | operator
  deriving DecidableEq, Repr

/-- The sums of one point in one phase (R94, R99). -/
structure PhaseSum where
  energy : Nat
  frames : Nat
  unusable : Nat
  deriving DecidableEq, Repr

/-- Empty sums. -/
def PhaseSum.zero : PhaseSum := ⟨0, 0, 0⟩

/-- The result of one point (R103): its code where it is RESOLVED, and Lv(b_k) and Lv(s_k) where they were formed. -/
structure PointResult where
  code : Option Int
  lvB : Option Nat
  lvS : Option Nat
  deriving DecidableEq, Repr

/-- The result table (R103). -/
structure SurveyResults where
  lvR : Nat
  points : Bank 8 PointResult
  deriving DecidableEq, Repr

/-- The survey record (R94). -/
structure Survey where
  state : SurveyState
  stage : StageId
  d : Nat
  level : Nat
  phaseSecs : Nat
  excluded : Nat
  strong : Nat
  quiet : Bank 8 PhaseSum
  signal : Bank 8 PhaseSum
  refEnergy : Nat
  refFrames : Nat
  reason : Option SurveyReason
  results : Option SurveyResults
  deriving DecidableEq, Repr

/-! ### Allocation engine -/

/-- The kind of a target (R113). -/
inductive TargetKind where
  | allocated
  | approach
  | survey
  | stop
  | closed
  deriving DecidableEq, Repr

/-- A stage's activity: PLAYING or IDLE, with its quiet-second count (R124). -/
structure Activity where
  idle : Bool
  quiet : Nat
  deriving DecidableEq, Repr

/-- The mark of a named constraint (R131, R205). -/
inductive Mark where
  | none
  | top
  | floor
  | curfew
  | stop
  | survey
  | closed
  deriving DecidableEq, Repr

/-- The constraint that set a target (R131). -/
structure Constraint where
  mark : Mark
  point : Option PointId
  tier : Option Tier
  deriving DecidableEq, Repr

/-- One stage's entry of a pass result (R113), with the figures that R132 keeps. -/
structure PassEntry where
  target : Nat
  kind : TargetKind
  second : Second
  idle : Bool
  share : Nat
  named : Constraint
  deriving DecidableEq, Repr

/-- The figures of a constrained point (R132). -/
structure PointFigure where
  lvA : Nat
  tier : Tier
  lvB : Nat
  lvV : Nat
  deriving DecidableEq, Repr

/-- What a pass shows of an enabled point: unconstrained, or constrained with its figures (R132). -/
inductive PointStanding where
  | unconstrained
  | constrained (fig : PointFigure)
  deriving DecidableEq, Repr

/-- The result of a pass (R113) with the figures it leaves (R132). `points` is `none` for a pass that counted the session
closed, and an entry of it `none` for a point disabled in the snapshot. -/
structure PassOutcome where
  entries : Bank 4 (Option PassEntry)
  approach : Bool
  curfew : CurfewInfo
  points : Option (Bank 8 (Option PointStanding))
  deriving DecidableEq, Repr

/-- Every input of a pass as it was taken at the pass start (R110), with the activity and the approach flag as that start
left them (R124, R129). -/
structure PassInputs where
  snap : Snapshot
  zones : Bank 4 ZoneLimits
  session : Option Session
  curfew : CurfewInfo
  target : Option (StageId × Nat)
  coupling : Bank 4 (Bank 8 (Option Int))
  stages : Bank 4 StageSettings
  depth : Nat
  horizon : Nat
  ceilings : Bank 4 Nat
  activity : Bank 4 (Option Activity)
  approach : Bool
  /-- The stages disabled since the pass started, whose entries are ignored when the result is taken (R136). -/
  dropped : Bank 4 Bool
  deriving DecidableEq, Repr

/-- The figures of the last completed pass (R132). -/
structure Figures where
  stages : Bank 4 (Option PassEntry)
  points : Option (Bank 8 (Option PointStanding))
  deriving DecidableEq, Repr

/-- The allocation engine between passes (R132), the snapshot handed over to it and the pass in flight (R110). -/
structure Engine where
  /-- `none` for a disabled stage. -/
  activity : Bank 4 (Option Activity)
  /-- The approach flag: the STOP start minute while it is set (R129). -/
  approach : Option Nat
  figures : Option Figures
  pass : Option PassInputs
  /-- The second snapshot handed over (R58) that the engine has not yet taken (R110, R112; assumption 25). -/
  handed : Option Snapshot
  deriving DecidableEq, Repr

/-! ### Grant unit -/

/-- The compliance state (R143). -/
inductive Compliance where
  | disabled
  | tracking
  | pending
  | enforced
  | releasing
  deriving DecidableEq, Repr

/-- The causes of ENFORCEMENT records; the first four are the causes of enforcement (R134, R162). -/
inductive Cause where
  | ackTimeout
  | cannotComply
  | overrun
  | powerUp
  | forced
  | unforced
  | holdMinDone
  | disabled
  deriving DecidableEq, Repr

/-- A stage grant record (R134). A running timer holds the seconds it was started with (R146, R148). -/
structure Grant where
  c : Nat
  t : Nat
  kind : TargetKind
  applied : Option Nat
  compliance : Compliance
  complianceTimer : Option Nat
  holdTimer : Option Nat
  overrun : Nat
  forced : Bool
  session : Bool
  cause : Option Cause
  last : Second
  deriving DecidableEq, Repr

/-- The grant unit. -/
structure GrantUnit where
  grants : Bank 4 Grant
  /-- The approach flag of the last pass result taken. -/
  approach : Bool
  /-- The curfew information of the last pass result taken. -/
  curfew : CurfewInfo
  deriving DecidableEq, Repr

/-! ### Record ring -/

/-- A change of a hold line (R153). -/
inductive LineChange where
  | asserted
  | released
  deriving DecidableEq, Repr

/-- The reason of a rejected schedule (R78). -/
inductive SchedReason where
  | count
  | order
  | range
  | window
  | ramp
  | sessionEnd
  deriving DecidableEq, Repr

/-- Why a session closed (R162). -/
inductive CloseCause where
  | request
  | ended
  | reset
  deriving DecidableEq, Repr

/-- The event of an ACCESS record or notice (R162). -/
inductive AccessEvent where
  | unauthorized
  | broken
  | cleared
  deriving DecidableEq, Repr

/-- The cause of a GAP record (R162). -/
inductive GapCause where
  | powerUp
  | commandReset
  | storeInvalid
  | ringFull
  deriving DecidableEq, Repr

/-- A record's kind with the fields of its kind (R162). -/
inductive RecordBody where
  | exceedanceStart (k : PointId) (tier : Tier) (start limit : Nat)
  | exceedanceEnd (k : PointId) (tier : Tier) (peak duration : Nat)
  | intervalSummary (k : PointId) (laeq lceq laMax blind overload gap : Nat) (source : Source)
  | enforcement (t : StageId) (change : LineChange) (cause : Cause) (c : Nat) (last : Second)
  | schedule (reason : Option SchedReason) (count : Nat)
  | sessionOpened (slot : SlotId) (fS : Nat)
  | sessionClosed (slot : SlotId) (fS : Nat) (cause : CloseCause)
  | curfewApproach (minute : Nat)
  | curfewStop (minute : Nat)
  | sensorChannel (ch : ChannelId) (state : ChannelState)
  | sensorPoint (k : PointId) (source : Source)
  | access (slot : SlotId) (event : AccessEvent) (code : Byte)
  | clock (old new : Time)
  | gap (cause : GapCause) (lost : Nat)
  deriving DecidableEq, Repr

/-- A record of the ring (R162). -/
structure Record where
  number : Nat
  stamp : Time
  body : RecordBody
  deriving DecidableEq, Repr

/-- The record ring (R161); the held count is the length of the list. -/
structure RecordRing where
  /-- Oldest first. -/
  list : List Record
  lost : Nat
  next : Nat
  deriving DecidableEq, Repr

/-! ### Notice unit -/

/-- The ten classes of notices, highest priority first (R170). -/
inductive NoticeClass where
  | hold
  | exceed
  | curfew
  | sensor
  | lowered
  | schedule
  | survey
  | ring
  | access
  | clock
  deriving DecidableEq, Repr

/-- A notice: its class with its detail (R170). -/
inductive Notice where
  | hold (t : StageId) (change : LineChange) (cause : Cause)
  | exceed (k : PointId) (tier : Tier)
  | curfewApproach (minute : Nat)
  | curfewStop (minute : Nat)
  | sensorChannel (ch : ChannelId)
  | sensorPoint (k : PointId)
  | lowered (t : StageId) (c : Nat)
  | schedule (reason : Option SchedReason)
  | survey (outcome : Option SurveyReason) (t : StageId)
  | ring (held : Nat)
  | access (slot : SlotId) (event : AccessEvent)
  | clock (valid : Bool)
  deriving DecidableEq, Repr

/-- The notice unit's state of one slot: the pending set, highest priority first, and the attention enable (R172, R175). -/
structure NoticeSlot where
  pending : List Notice
  enable : Bool
  deriving DecidableEq, Repr

/-! ### Link arbiter and access unit -/

/-- The reason of a STATE response (R190). -/
inductive Reason where
  | sessionOpen
  | clock
  | survey
  | stop
  | coupling
  | endTime
  | noSession
  | commitPending
  | stageDisabled
  | reference
  | notDone
  | noSurvey
  | notBroken
  deriving DecidableEq, Repr

/-- The status of a response (R190). -/
inductive Status where
  | ok
  | role
  | state (r : Reason)
  | param
  | busy
  | unknown
  deriving DecidableEq, Repr

/-- A response: its status and, for OK, its payload (R201). -/
structure Response where
  status : Status
  payload : List Byte
  deriving DecidableEq, Repr

/-- The station link (R178, R183). -/
inductive Link where
  /-- Free; the grant is parked on a slot, or on none. -/
  | free (parked : Option SlotId)
  /-- A turn of a slot, up to its frame's end; `begun` where the frame is known to have begun. -/
  | turn (slot : SlotId) (begun : Bool)
  /-- The part sends its response to the slot. -/
  | responding (slot : SlotId)
  /-- After a miss for a long or unfinished frame: no grant until the pair has been idle for 20 µs. -/
  | clearing
  deriving DecidableEq, Repr

/-- The arbiter's state of one slot: its request line, whether it is BROKEN, and its miss run (R181). -/
structure ArbSlot where
  line : Bool
  broken : Bool
  missRun : Nat
  deriving DecidableEq, Repr

/-- The link arbiter and access unit. -/
structure Arbiter where
  slots : Bank 8 ArbSlot
  link : Link
  /-- The level-1 pointer names slot 0 (true) or the level-2 member (false) (R182). -/
  level1Zero : Bool
  /-- The level-2 pointer, a slot from 1 to 7 (R182). -/
  level2 : SlotId
  /-- The slot last granted since the reset (R183). -/
  lastGranted : Option SlotId
  /-- The response the part sent last, the link's output (R178). -/
  response : Option Response
  /-- A RESET has been answered OK and takes effect when its response ends (R197). -/
  resetDue : Bool
  deriving DecidableEq, Repr

/-! ### Settings store -/

/-- The settings store (R194, R195): the image with the 32-bit check value written with it, and the copy being written while
SAVING. -/
structure Store where
  image : Settings
  check : BitVec 32
  saving : Option Settings
  deriving DecidableEq, Repr

/-- The store as a completed save leaves it: IDLE, the image with the check value computed over it (R194, R195). -/
def Store.written (g : Settings) : Store := ⟨g, Config.imageCheck g, none⟩

/-! ### The part -/

/-- The whole state of the part, and the queue of the commands that wait. -/
structure State where
  /-- Supply is present. -/
  powered : Bool
  /-- The stored settings in use, each in its owning block (R194). -/
  settings : Settings
  /-- SP: the channel records. -/
  sp : Bank 16 Channel
  /-- PM: sources and references. -/
  pm : PointMap
  /-- EI. -/
  ei : Integrator
  /-- SU. -/
  su : ScheduleUnit
  /-- CS: the survey record. -/
  cs : Survey
  /-- AE. -/
  ae : Engine
  /-- GU. -/
  gu : GrantUnit
  /-- RR. -/
  rr : RecordRing
  /-- NU. -/
  nu : Bank 8 NoticeSlot
  /-- LA. -/
  la : Arbiter
  /-- ST. -/
  st : Store
  /-- The MODEL's own counter of the free choices made: the argument of the free values that Config.lean names as drawn. -/
  draws : Nat
  /-- The commands waiting, first in, first out. -/
  pending : List Instr
  deriving DecidableEq, Repr

/-- The part stops with a fault: never. The spec gives every event and every request an effect or an answer, so no
constructor is needed; the type is empty and a fault is impossible by construction (safe). -/
inductive Fault where
  deriving DecidableEq, Repr

/-- A command has no meaning. -/
inductive Refusal where
  /-- Raised only by an arm of `exec` for a command the model has not reached, none today (safe: the model stops). -/
  | notModelled (mnemonic : String)
  deriving DecidableEq, Repr

/-! ### Factory defaults -/

/-- A zone entry with LF absent and LW 60.00 dB over 15 minutes (R67, R69). -/
def factoryZone : ZoneLimits := ⟨none, some ⟨6000, 15⟩⟩

/-- The factory default of every stored setting (R25, R28, R67, R69, R81, R90, R114, R171, R184, R186, R193). -/
def Settings.factory : Settings where
  channelMap := Bank.fill 16 ⟨.unused, 0⟩
  points := Bank.fill 8 ⟨false, 0, 0, 7500⟩
  stages := Bank.fill 4 ⟨false, 6000, 10200, 7000, 0⟩
  coupling := Bank.fill 4 (Bank.fill 8 none)
  schedule := [⟨0, .opened, 0, Bank.fill 4 factoryZone⟩]
  allowance := ⟨Bank.fill 4 none, 1380⟩
  fallback := Bank.fill 4 factoryZone
  stations := (Bank.fill 8 ⟨.unassigned, false, .refuse⟩).set 0 ⟨.authority, true, .refuse⟩
  dispatch := ⟨⟨⟨[
    ⟨true, true, true, false⟩, ⟨true, true, false, false⟩, ⟨true, true, true, false⟩, ⟨true, true, false, false⟩,
    ⟨false, false, true, false⟩, ⟨true, true, false, false⟩, ⟨false, true, false, false⟩, ⟨true, false, false, false⟩,
    ⟨true, false, false, false⟩, ⟨true, true, false, false⟩]⟩, rfl⟩⟩
  arbiter := ⟨true, .default, 0⟩
  timing := ⟨3000, 600, 100, 25, 5, 10, 300, 5, 768⟩

/-! ### Values after power-up -/

/-- A channel after a reset (R34). -/
def Channel.afterReset (e : MapEntry) : Channel :=
  match e.binding with
  | .unused => ⟨.unbound, 0, none, 0, 0, false, 0, 0, .empty, false⟩
  | _ => ⟨.settling, e.expected, none, 0, 0, true, 0, 0, .empty, false⟩

/-- A point's source and held power after a reset (R35). -/
def PointView.afterReset (q : PointSettings) : PointView :=
  ⟨if q.enabled then .blind else .disabled, p q.substitute, p q.substitute⟩

/-- A stage reference after a reset: blind, held power 1 pu (R35). -/
def RefView.afterReset : RefView := ⟨false, 1⟩

/-- A point of the integrator at power-up, in a zone whose fast limit is `lf` (R61). -/
def PointExposure.afterPowerUp (lf : Option Nat) : PointExposure where
  secondSum := 0
  secondBlind := 0
  bin := 0
  ring := Bank.fill 60 0
  bucket := if lf.isSome then .amount 0 else .full
  eS := 0
  sessionLimit := none
  intervalA := 0
  intervalC := 0
  intervalBlind := 0
  intervalOverload := 0
  intervalGap := 0
  intervalMax := none
  latest := 3000
  fastEp := none
  windowEp := none
  sessionEp := none

/-- A stage of the integrator at power-up (R61). -/
def StageExposure.afterPowerUp : StageExposure := ⟨0, 0, 3000, false⟩

/-- The survey after a reset: IDLE, nothing held (R106). Stage, d and survey level are the model's zeros (assumption 18). -/
def Survey.afterReset : Survey where
  state := .idle
  stage := 0
  d := 0
  level := 0
  phaseSecs := 0
  excluded := 0
  strong := 0
  quiet := Bank.fill 8 .zero
  signal := Bank.fill 8 .zero
  refEnergy := 0
  refFrames := 0
  reason := none
  results := none

/-- The activity of a stage after a reset: PLAYING with count 0 where it is enabled (R133). -/
def Activity.afterReset (q : StageSettings) : Option Activity := if q.enabled then some ⟨false, 0⟩ else none

/-- A grant record after a reset (R158). -/
def Grant.afterReset (q : StageSettings) : Grant where
  c := q.floor
  t := q.floor
  kind := .closed
  applied := none
  compliance := if q.enabled then .enforced else .disabled
  complianceTimer := none
  holdTimer := none
  overrun := 0
  forced := false
  session := false
  cause := if q.enabled then some .powerUp else none
  last := .blind

/-- A slot of the notice unit after a reset (R177). -/
def NoticeSlot.afterReset : NoticeSlot := ⟨[], true⟩

/-- Curfew information before the first pass result (R158). -/
def CurfewInfo.none : CurfewInfo := ⟨false, .none⟩

/-- The clock at power-up (R63). -/
def Time.atPowerUp : Time := ⟨0, 0, false⟩

/-- Every block at its value after power-up with the settings `g` (R196, step 3); no record in the ring yet, the link free and
not yet arbitrated. The pins' request lines, the store, the draws and the queue are those given. -/
def State.afterPowerUp (g : Settings) (lines : Bank 8 Bool) (st : Store) (draws : Nat) (pending : List Instr) : State where
  powered := true
  settings := g
  sp := g.channelMap.renew fun _ e => Channel.afterReset e
  pm := ⟨g.points.renew fun _ q => PointView.afterReset q, Bank.fill 4 RefView.afterReset⟩
  ei := ⟨0, g.points.renew fun _ q => PointExposure.afterPowerUp (g.fallback.get q.zone).lf,
    Bank.fill 4 StageExposure.afterPowerUp, 0⟩
  su := ⟨Time.atPowerUp, [], g.allowance, false, ⟨none, g.fallback, none⟩, none⟩
  cs := Survey.afterReset
  ae := ⟨g.stages.renew fun _ q => Activity.afterReset q, none, none, none, none⟩
  gu := ⟨g.stages.renew fun _ q => Grant.afterReset q, false, CurfewInfo.none⟩
  rr := ⟨[], 0, 0⟩
  nu := Bank.fill 8 NoticeSlot.afterReset
  la := ⟨lines.renew fun _ l => ⟨l, false, 0⟩, .free none, false, 7, none, none, false⟩
  st := st
  draws := draws
  pending := pending

/-- The part right after power-up with a whole image of factory settings (assumption 9): the GAP record of POWER_UP in the
ring (R196, step 1), no request line asserted, so that the grant is parked on slot 0 (R183), no command waiting. -/
def State.reset : State :=
  let s := State.afterPowerUp Settings.factory (Bank.fill 8 false) (Store.written Settings.factory) 0 []
  { s with
    rr := ⟨[⟨0, Time.atPowerUp, .gap .powerUp 0⟩], 0, 1⟩
    la := { s.la with link := .free (some 0) } }

end Sys2Proof.Machine
end

