-- ==== Sys2Proof/Machine/Operands.lean ====
section
/-!
DEFINITION. The operands of the commands: the encoding of fields in bytes (R198), the two check values (R199), the request codes
with their lengths (R202), and each request's parameters read from the bytes of its frame.
-/

namespace Sys2Proof.Machine

/-! ### Fields to bytes (R198) -/

/-- One byte. -/
def u8 (n : Nat) : List Byte := [BitVec.ofNat 8 n]
/-- Two bytes, most significant first. -/
def u16 (n : Nat) : List Byte := [BitVec.ofNat 8 (n / 256), BitVec.ofNat 8 n]
/-- Four bytes, most significant first. -/
def u32 (n : Nat) : List Byte := u16 (n / 65536) ++ u16 n
/-- Eight bytes, most significant first. -/
def u64 (n : Nat) : List Byte := u32 (n / 4294967296) ++ u32 n
/-- A signed two-byte value in two's complement. -/
def i16 (x : Int) : List Byte := u16 (x % 65536).toNat
/-- A flag: 0 clear, 1 set. -/
def flag (b : Bool) : List Byte := u8 (if b then 1 else 0)
/-- An optional value whose bytes number `width`: a presence byte, then the value's bytes, all 0 when absent. -/
def optional (width : Nat) (v : Option (List Byte)) : List Byte :=
  match v with
  | none => List.replicate (1 + width) 0
  | some bs => u8 1 ++ bs
/-- A coupling entry: a signed code, or 0x7FFF for UNSET. -/
def couplingBytes (k : Option Int) : List Byte :=
  match k with
  | none => u16 0x7FFF
  | some x => i16 x
/-- A time: the day number, then bit 31 valid and bits 0 to 30 the seconds of day. -/
def timeBytes (c : Time) : List Byte := u16 c.day ++ u32 (c.secs + if c.valid then 2 ^ 31 else 0)

/-! ### Bytes to fields -/

/-- Two bytes, most significant first. -/
def word (a b : Byte) : Nat := a.toNat * 256 + b.toNat
/-- Two bytes as a signed value in two's complement. -/
def signedWord (a b : Byte) : Int := if word a b < 32768 then word a b else (word a b : Int) - 65536
/-- An index below `n`. -/
def index (n : Nat) (b : Byte) : Option (Fin n) := if h : b.toNat < n then some ⟨b.toNat, h⟩ else none
/-- A one-byte flag; a byte other than 0 and 1 is the free value of assumption 8. -/
def readFlag (b : Byte) : Option Bool :=
  if b = 0 then some false else if b = 1 then some true else Config.flagByte b

/-! ### Check values (R199) -/

/-- One byte into a CRC-8 register, most significant bit first, polynomial 0x07. -/
def crc8Byte (r : BitVec 8) (b : Byte) : BitVec 8 :=
  (List.range 8).foldl (fun r _ => if r.msb then (r <<< 1) ^^^ 0x07#8 else r <<< 1) (r ^^^ b)
/-- The CRC-8 of a sensor frame: initial value 0x00. -/
def crc8 (bs : List Byte) : BitVec 8 := bs.foldl crc8Byte 0x00#8
/-- One byte into a CRC-16 register, most significant bit first, polynomial 0x1021. -/
def crc16Byte (r : BitVec 16) (b : Byte) : BitVec 16 :=
  (List.range 8).foldl (fun r _ => if r.msb then (r <<< 1) ^^^ 0x1021#16 else r <<< 1) (r ^^^ (b.setWidth 16 <<< 8))
/-- The CRC-16 of a link frame: initial value 0xFFFF. -/
def crc16 (bs : List Byte) : BitVec 16 := bs.foldl crc16Byte 0xFFFF#16
/-- The CRC-16 of a frame's bytes as the two bytes sent, high byte first. -/
def crcBytes (bs : List Byte) : List Byte := u16 (crc16 bs).toNat

/-! ### Sensor frames (R200) -/

/-- The fields of a sensor frame. -/
structure HeadFrame where
  identity : Nat
  seq : Nat
  la : Nat
  lc : Nat
  overload : Bool
  calibrating : Bool
  headFault : Bool
  deriving DecidableEq, Repr

/-- What a frame candidate is: a received frame, or `none` for a bad frame. It must hold exactly 10 characters without a framing
error (R15), its last byte must be the CRC-8 of the others, and its head identity must not be 0 (R16). -/
def headFrame (cand : List RxChar) : Option HeadFrame :=
  if cand.any (·.framingError) then none
  else
    match cand.map (·.byte) with
    | [b0, b1, b2, b3, b4, b5, b6, b7, b8, b9] =>
      if crc8 [b0, b1, b2, b3, b4, b5, b6, b7, b8] = b9 ∧ word b0 b1 ≠ 0 then
        some ⟨word b0 b1, b2.toNat, word b3 b4, word b5 b6, b7.getLsbD 0, b7.getLsbD 1, b7.getLsbD 2⟩
      else none
    | _ => none

/-! ### Requests (R202) -/

/-- The requests of the part. -/
inductive Request where
  | statusRead | levelsRead | noticeEnable | grantQuery | grantAck | sessionOpen | sessionClose | pointWrite | stageWrite
  | channelBind | shareWrite | couplingWrite | couplingRead | surveyStart | surveyAbort | surveyAccept | surveyDiscard
  | surveyRead | schedRead | schedWrite | schedClear | schedCommit | sessionLimitWrite | fallbackWrite | timeSet | roleWrite
  | dispatchWrite | holdForce | holdUnforce | recordRead | recordRelease | arbWrite | arbClear | timingWrite | storeSave | reset
  deriving DecidableEq, Repr

/-- Every request. -/
def allRequests : List Request :=
  [.statusRead, .levelsRead, .noticeEnable, .grantQuery, .grantAck, .sessionOpen, .sessionClose, .pointWrite, .stageWrite,
   .channelBind, .shareWrite, .couplingWrite, .couplingRead, .surveyStart, .surveyAbort, .surveyAccept, .surveyDiscard,
   .surveyRead, .schedRead, .schedWrite, .schedClear, .schedCommit, .sessionLimitWrite, .fallbackWrite, .timeSet, .roleWrite,
   .dispatchWrite, .holdForce, .holdUnforce, .recordRead, .recordRelease, .arbWrite, .arbClear, .timingWrite, .storeSave, .reset]

/-- The request code (R202). -/
def Request.code : Request → Byte
  | .statusRead => 0x01 | .levelsRead => 0x02 | .noticeEnable => 0x03
  | .grantQuery => 0x10 | .grantAck => 0x11
  | .sessionOpen => 0x20 | .sessionClose => 0x21 | .pointWrite => 0x22 | .stageWrite => 0x23 | .channelBind => 0x24
  | .shareWrite => 0x25
  | .couplingWrite => 0x30 | .couplingRead => 0x31 | .surveyStart => 0x32 | .surveyAbort => 0x33 | .surveyAccept => 0x34
  | .surveyDiscard => 0x35 | .surveyRead => 0x36
  | .schedRead => 0x40 | .schedWrite => 0x41 | .schedClear => 0x42 | .schedCommit => 0x43 | .sessionLimitWrite => 0x44
  | .fallbackWrite => 0x45 | .timeSet => 0x46
  | .roleWrite => 0x50 | .dispatchWrite => 0x51 | .holdForce => 0x52 | .holdUnforce => 0x53 | .recordRead => 0x54
  | .recordRelease => 0x55 | .arbWrite => 0x56 | .arbClear => 0x57 | .timingWrite => 0x58 | .storeSave => 0x59 | .reset => 0x5A

/-- The request a code names, if any. -/
def Request.ofCode (c : Byte) : Option Request := allRequests.find? (·.code = c)

/-- The parameter lengths of a request's forms (R202). -/
def Request.forms : Request → List Nat
  | .statusRead => [0] | .levelsRead => [2] | .noticeEnable => [1] | .grantQuery => [1] | .grantAck => [4]
  | .sessionOpen => [0, 2] | .sessionClose => [0] | .pointWrite => [7] | .stageWrite => [8] | .channelBind => [5]
  | .shareWrite => [8] | .couplingWrite => [4] | .couplingRead => [1] | .surveyStart => [4] | .surveyAbort => [0]
  | .surveyAccept => [0] | .surveyDiscard => [0] | .surveyRead => [0] | .schedRead => [2] | .schedWrite => [29]
  | .schedClear => [0] | .schedCommit => [0] | .sessionLimitWrite => [14] | .fallbackWrite => [24] | .timeSet => [6]
  | .roleWrite => [5] | .dispatchWrite => [2] | .holdForce => [1] | .holdUnforce => [1] | .recordRead => [3]
  | .recordRelease => [2] | .arbWrite => [3] | .arbClear => [1] | .timingWrite => [14] | .storeSave => [0] | .reset => [0]

/-! ### Parameters of each request, in the order its owning rule names them -/

/-- A single index below `n` (GRANT_QUERY, COUPLING_READ, HOLD_FORCE, HOLD_UNFORCE, ARB_CLEAR). -/
def readIndex (n : Nat) : List Byte → Option (Fin n)
  | [b] => index n b
  | _ => none

/-- LEVELS_READ(part, first index): the parts in the order CHANNELS, POINTS, STAGES (R192, R202). -/
inductive LevelsPart where
  | channels (first : Nat)
  | points (first : Nat)
  | stages
  deriving DecidableEq, Repr

/-- The part and first index of LEVELS_READ; an index not allowed for the part is PARAM (R192). -/
def readLevelsPart : List Byte → Option LevelsPart
  | [b, f] =>
    match b.toNat, f.toNat with
    | 0, 0 => some (.channels 0)
    | 0, 8 => some (.channels 8)
    | 1, 0 => some (.points 0)
    | 1, 4 => some (.points 4)
    | 2, 0 => some .stages
    | _, _ => none
  | _ => none

/-- NOTICE_ENABLE(enable). -/
def readEnable : List Byte → Option Bool
  | [b] => readFlag b
  | _ => none

/-- GRANT_ACK(stage, applied, cannot-comply). -/
def readAck : List Byte → Option (StageId × Nat × Bool)
  | [t, a1, a0, c] => do
    let t ← index 4 t
    let c ← readFlag c
    pure (t, word a1 a0, c)
  | _ => none

/-- SESSION_OPEN(requested end minute): absent, or a minute up to 1439 (R82). -/
def readEndMinute : List Byte → Option (Option Nat)
  | [] => some none
  | [a, b] => if word a b ≤ 1439 then some (some (word a b)) else none
  | _ => none

/-- A level code from 3000 to 13000. -/
def limitRange (l : Nat) : Bool := 3000 ≤ l && l ≤ 13000

/-- A "yes or no" field: a byte other than 0 and 1 lies outside its range (R28). -/
def readYesNo (b : Byte) : Option Bool := if b = 0 then some false else if b = 1 then some true else none

/-- POINT_WRITE(point, enabled, zone, standby offset, substitute level), each in its range (R28). -/
def readPoint : List Byte → Option (PointId × PointSettings)
  | [k, e, z, o1, o0, s1, s0] => do
    let k ← index 8 k
    let e ← readYesNo e
    let z ← index 4 z
    if -1000 ≤ signedWord o1 o0 ∧ signedWord o1 o0 ≤ 1000 ∧ limitRange (word s1 s0) then
      pure (k, ⟨e, z, signedWord o1 o0, word s1 s0⟩)
    else none
  | _ => none

/-- STAGE_WRITE(stage, enabled, floor, top, idle threshold), each in its range and floor + 100 not above top (R114, R115). -/
def readStage : List Byte → Option (StageId × Bool × Nat × Nat × Nat)
  | [t, e, f1, f0, t1, t0, i1, i0] => do
    let t ← index 4 t
    let e ← readFlag e
    if 4000 ≤ word f1 f0 ∧ word f1 f0 ≤ 9000 ∧ 6000 ≤ word t1 t0 ∧ word t1 t0 ≤ 11500 ∧ 4000 ≤ word i1 i0 ∧
        word i1 i0 ≤ 10000 ∧ word f1 f0 + 100 ≤ word t1 t0 then
      pure (t, e, word f1 f0, word t1 t0, word i1 i0)
    else none
  | _ => none

/-- A binding: its kind, then its point or stage index, ignored for UNUSED (R202). -/
def readBinding (kind i : Byte) : Option Binding :=
  match kind.toNat with
  | 0 => some .unused
  | 1 => (index 8 i).map .primary
  | 2 => (index 8 i).map .standby
  | 3 => (index 4 i).map .reference
  | _ => none

/-- CHANNEL_BIND(channel, binding, expected identity) (R26, R27, R202). -/
def readBind : List Byte → Option (ChannelId × MapEntry)
  | [c, kind, i, e1, e0] => do
    let c ← index 16 c
    let b ← readBinding kind i
    pure (c, ⟨b, word e1 e0⟩)
  | _ => none

/-- SHARE_WRITE(four shares), none above 256 (R117). -/
def readShares : List Byte → Option (Bank 4 Nat)
  | [a1, a0, b1, b0, c1, c0, d1, d0] =>
    if word a1 a0 ≤ 256 ∧ word b1 b0 ≤ 256 ∧ word c1 c0 ≤ 256 ∧ word d1 d0 ≤ 256 then
      some ⟨⟨⟨[word a1 a0, word b1 b0, word c1 c0, word d1 d0]⟩, rfl⟩⟩
    else none
  | _ => none

/-- COUPLING_WRITE(stage, point, entry): a code from −9000 to 0, or UNSET (R91, R198). -/
def readCoupling : List Byte → Option (StageId × PointId × Option Int)
  | [t, k, e1, e0] => do
    let t ← index 4 t
    let k ← index 8 k
    if word e1 e0 = 0x7FFF then pure (t, k, none)
    else if -9000 ≤ signedWord e1 e0 ∧ signedWord e1 e0 ≤ 0 then pure (t, k, some (signedWord e1 e0))
    else none
  | _ => none

/-- SURVEY_START(stage, d, survey level), with d from 10 to 120 (R95); the level is judged against the stage's settings. -/
def readSurvey : List Byte → Option (StageId × Nat × Nat)
  | [t, d, l1, l0] => do
    let t ← index 4 t
    if 10 ≤ d.toNat ∧ d.toNat ≤ 120 then pure (t, d.toNat, word l1 l0) else none
  | _ => none

/-- The lists SCHED_READ names, in the order of R202. -/
inductive SchedList where
  | active
  | pending
  | fallback
  | allowance
  deriving DecidableEq, Repr

/-- SCHED_READ(list, first index) (R80, R202). -/
def readSchedList : List Byte → Option (SchedList × Nat)
  | [l, f] =>
    match l.toNat with
    | 0 => some (.active, f.toNat)
    | 1 => some (.pending, f.toNat)
    | 2 => some (.fallback, f.toNat)
    | 3 => some (.allowance, f.toNat)
    | _ => none
  | _ => none

/-- A zone entry of 6 bytes: presence bits for LF and the window, LF, LW, N; absent values are ignored (R203). That bits 2 to 7 of
the presence byte are ignored is the model's choice (assumption 35). -/
def readZone (pr f1 f0 w1 w0 n : Byte) : ZoneLimits :=
  ⟨if pr.getLsbD 0 then some (word f1 f0) else none,
   if pr.getLsbD 1 then some ⟨word w1 w0, n.toNat⟩ else none⟩

/-- Four zone entries, 24 bytes (R203). -/
def readZones : List Byte → Option (Bank 4 ZoneLimits)
  | [a, a1, a2, a3, a4, a5, b, b1, b2, b3, b4, b5, c, c1, c2, c3, c4, c5, d, d1, d2, d3, d4, d5] =>
    some ⟨⟨⟨[readZone a a1 a2 a3 a4 a5, readZone b b1 b2 b3 b4 b5, readZone c c1 c2 c3 c4 c5,
      readZone d d1 d2 d3 d4 d5]⟩, rfl⟩⟩
  | _ => none

/-- The kind of a period: OPEN 0, STOP 1 (R203). -/
def readKind (b : Byte) : Option PeriodKind :=
  match b.toNat with
  | 0 => some .opened
  | 1 => some .stop
  | _ => none

/-- SCHED_WRITE(index, period record): the values of the record are taken as given, but for its kind (R75, R203). -/
def readPeriod : List Byte → Option (Nat × Period)
  | i :: s1 :: s0 :: kind :: ramp :: zones => do
    let kind ← readKind kind
    let zones ← readZones zones
    pure (i.toNat, ⟨word s1 s0, kind, ramp.toNat, zones⟩)
  | _ => none

/-- An optional LS of SESSION_LIMIT_WRITE: a presence byte other than 0 and 1 is PARAM (R198, R203). -/
def readLs (pr l1 l0 : Byte) : Option (Option Nat) :=
  match pr.toNat with
  | 0 => some none
  | 1 => some (some (word l1 l0))
  | _ => none

/-- SESSION_LIMIT_WRITE(four zone entries of LS, latest end minute), the values taken as given (R76, R203). -/
def readAllowance : List Byte → Option Allowance
  | [a, a1, a0, b, b1, b0, c, c1, c0, d, d1, d0, e1, e0] => do
    let a ← readLs a a1 a0
    let b ← readLs b b1 b0
    let c ← readLs c c1 c0
    let d ← readLs d d1 d0
    pure ⟨⟨⟨⟨[a, b, c, d]⟩, rfl⟩⟩, word e1 e0⟩
  | _ => none

/-- The limits of a zone entry lie in their ranges (R69). -/
def ZoneLimits.inRange (z : ZoneLimits) : Bool :=
  (match z.lf with | none => true | some l => limitRange l) &&
  (match z.window with | none => true | some w => limitRange w.lw && 1 ≤ w.n && w.n ≤ 60)

/-- FALLBACK_WRITE(four zone entries), every present limit and length in its range (R69). -/
def readFallback (bs : List Byte) : Option (Bank 4 ZoneLimits) := do
  let zones ← readZones bs
  if (zones.get 0).inRange && (zones.get 1).inRange && (zones.get 2).inRange && (zones.get 3).inRange then pure zones else none

/-- TIME_SET(day, seconds, valid): seconds up to 86399 (R64, R198). -/
def readTime : List Byte → Option Time
  | [d1, d0, w3, w2, w1, w0] =>
    let w := word w3 w2 * 65536 + word w1 w0
    if w % 2 ^ 31 ≤ 86399 then some ⟨word d1 d0, w % 2 ^ 31, 2 ^ 31 ≤ w⟩ else none
  | _ => none

/-- The stage byte of ROLE_WRITE: 0 to 3, or 0xFF for none (R202). -/
def readRoleStage (b : Byte) : Option (Option StageId) :=
  if b = 0xFF then some none else (index 4 b).map some

/-- A role by its position in R186's list; for PRODUCTION the stage must be present (R187). -/
def readRole (r : Byte) (stage : Option StageId) : Option Role :=
  match r.toNat with
  | 0 => some .unassigned
  | 1 => some .authority
  | 2 => some .operator
  | 3 => stage.map .production
  | 4 => some .observer
  | _ => none

/-- A treatment by its position in R186's list. -/
def readTreatment (b : Byte) : Option Treatment :=
  match b.toNat with
  | 0 => some .drop
  | 1 => some .refuse
  | 2 => some .demote
  | _ => none

/-- ROLE_WRITE(slot, role, stage, authorized, treatment): condition 1 of R187. -/
def readStation : List Byte → Option (SlotId × Station)
  | [k, r, s, a, tr] => do
    let k ← index 8 k
    let s ← readRoleStage s
    let r ← readRole r s
    let a ← readFlag a
    let tr ← readTreatment tr
    pure (k, ⟨r, a, tr⟩)
  | _ => none

/-- DISPATCH_WRITE(class, roles): a class by its priority number 1 to 10, a mask with bits 4 to 7 clear (R171, R202). -/
def readDispatch : List Byte → Option (Fin 10 × RoleMask)
  | [c, m] =>
    if h : 1 ≤ c.toNat ∧ c.toNat ≤ 10 ∧ m.toNat < 16 then
      some (⟨c.toNat - 1, by omega⟩, ⟨m.getLsbD 0, m.getLsbD 1, m.getLsbD 2, m.getLsbD 3⟩)
    else none
  | _ => none

/-- RECORD_READ(offset, count): a count from 1 to 8 (R166). -/
def readRecordSpan : List Byte → Option (Nat × Nat)
  | [o1, o0, c] => if 1 ≤ c.toNat ∧ c.toNat ≤ 8 then some (word o1 o0, c.toNat) else none
  | _ => none

/-- RECORD_RELEASE(n): n not 0 (R167). -/
def readCount : List Byte → Option Nat
  | [n1, n0] => if word n1 n0 = 0 then none else some (word n1 n0)
  | _ => none

/-- ARB_WRITE(isolation enable, park mode, default slot) (R184). -/
def readArbiter : List Byte → Option ArbiterSettings
  | [i, m, d] => do
    let i ← readFlag i
    let m ← (match m.toNat with | 0 => some ParkMode.last | 1 => some ParkMode.default | _ => none)
    let d ← index 8 d
    pure ⟨i, m, d⟩
  | _ => none

/-- The nine settings in the ranges of R193. -/
def Timing.inRange (g : Timing) : Bool :=
  600 ≤ g.depth && g.depth ≤ 6000 && 100 ≤ g.horizon && g.horizon ≤ 3000 && 10 ≤ g.downRate && g.downRate ≤ 600 &&
  5 ≤ g.upRate && g.upRate ≤ 200 && 1 ≤ g.deadline && g.deadline ≤ 30 && 5 ≤ g.holdMinimum && g.holdMinimum ≤ 120 &&
  100 ≤ g.overrunMargin && g.overrunMargin ≤ 1000 && 1 ≤ g.overrunCount && g.overrunCount ≤ 30 &&
  1 ≤ g.threshold && g.threshold ≤ 1024

/-- TIMING_WRITE, the nine settings in the order and with the widths of R202, each in its range (R193). -/
def readTiming : List Byte → Option Timing
  | [a1, a0, b1, b0, c1, c0, u, dl, hm, m1, m0, oc, t1, t0] =>
    let g : Timing := ⟨word a1 a0, word b1 b0, word c1 c0, u.toNat, dl.toNat, hm.toNat, word m1 m0, oc.toNat, word t1 t0⟩
    if g.inRange then some g else none
  | _ => none

/-! ### Link frames (R201) -/

/-- The bytes of a request frame: slot, code, length, parameters, CRC-16. -/
def requestFrame (slot code : Byte) (params : List Byte) : List Byte :=
  let body := slot :: code :: BitVec.ofNat 8 params.length :: params
  body ++ crcBytes body

/-- Why a completed frame is a miss (R179). -/
inductive FrameFault where
  | framing
  | crc
  | slot
  deriving DecidableEq, Repr

/-- The check of a completed frame against the granted slot (R179): its fault, or `none` for a good frame. -/
def frameFault (granted : SlotId) (chars : List RxChar) : Option FrameFault :=
  let bytes := chars.map (·.byte)
  if chars.any (·.framingError) then some .framing
  else if bytes.drop (bytes.length - 2) ≠ crcBytes (bytes.take (bytes.length - 2)) then some .crc
  else if (bytes.head?.map (·.toNat)) ≠ some granted.1 then some .slot
  else none

/-- The numeric value of a reason (R201). -/
def Reason.code : Reason → Nat
  | .sessionOpen => 1 | .clock => 2 | .survey => 3 | .stop => 4 | .coupling => 5 | .endTime => 6 | .noSession => 7
  | .commitPending => 8 | .stageDisabled => 9 | .reference => 10 | .notDone => 11 | .noSurvey => 12 | .notBroken => 13

/-- The numeric value of a status (R201). -/
def Status.code : Status → Nat
  | .ok => 0 | .role => 1 | .state _ => 2 | .param => 3 | .busy => 4 | .unknown => 5

/-- The payload bytes that travel: the reason's byte for STATE, none for the other refusals (R201). -/
def Response.bytes (r : Response) : List Byte :=
  match r.status with
  | .ok => r.payload
  | .state w => u8 w.code
  | _ => []

/-- The bytes of a response frame (R201). -/
def Response.frame (r : Response) : List Byte :=
  let body := u8 r.status.code ++ u8 r.bytes.length ++ r.bytes
  body ++ crcBytes body

end Sys2Proof.Machine
end

