-- ==== Sys2Proof/Machine/Flags.lean ====
section
/-!
DEFINITION. Flags and lines that the spec derives from the rest of the state: output pins (hold, attention and grant lines), the
arbiter state of a slot, the bindings seen from a point or a stage. Each is computed from the one place that stores it.
-/

namespace Sys2Proof.Machine

/-- A session is open (R86). -/
def State.sessionIsOpen (s : State) : Bool := s.su.session.isSome

/-- A store save is in progress (R195). -/
def State.isSaving (s : State) : Bool := s.st.saving.isSome

/-- The survey is in QUIET or SIGNAL (R94). -/
def Survey.running (v : Survey) : Bool := v.state = .quiet || v.state = .signal

/-- The survey target published in SIGNAL (R101). -/
def Survey.target (v : Survey) : Option (StageId × Nat) := if v.state = .signal then some (v.stage, v.level) else none

/-- The channel that holds a binding, if any (R25). -/
def Settings.holder (g : Settings) (b : Binding) : Option ChannelId :=
  allChannels.find? fun c => (g.channelMap.get c).binding = b

/-- The channel is there and LIVE (R29, R32). -/
def State.isLive (s : State) (c : Option ChannelId) : Bool :=
  match c with
  | none => false
  | some c => (s.sp.get c).state = .live

/-- The compliance state asserts the hold line of itself (R143). -/
def Compliance.pads : Compliance → Bool
  | .enforced => true
  | .releasing => true
  | _ => false

/-- A stage's hold line is asserted exactly when its state is ENFORCED or RELEASING or its forced hold is set (R151). -/
def Grant.holdLine (g : Grant) : Bool := g.compliance.pads || g.forced

/-- The last applied value is within the ceiling: not NONE, at most C + 50, at most the stage's top (R142). -/
def Grant.within (g : Grant) (top : Nat) : Bool :=
  match g.applied with
  | none => false
  | some a => a ≤ g.c + 50 && a ≤ top

/-- A slot's attention line is asserted while its pending set is not empty and its enable is set (R175). -/
def NoticeSlot.attention (n : NoticeSlot) : Bool := n.enable && !n.pending.isEmpty

/-- The arbiter state of a slot (R181). -/
inductive ArbState where
  | idle
  | waiting
  | granted
  | parked
  | broken
  deriving DecidableEq, Repr

/-- The slot that holds the grant for a turn (R178). -/
def Link.turnSlot : Link → Option SlotId
  | .turn k _ => some k
  | .responding k => some k
  | _ => none

/-- The slot on which the free link is parked (R183). -/
def Link.parkedSlot : Link → Option SlotId
  | .free k => k
  | _ => none

/-- The link is free: no turn is in progress, and the pair has gone idle (R178). -/
def Link.isFree : Link → Bool
  | .free _ => true
  | _ => false

/-- The arbiter state of slot `k`, read from its line, its BROKEN mark and the link (R181, assumption 13). -/
def Arbiter.stateOf (a : Arbiter) (k : SlotId) : ArbState :=
  if (a.slots.get k).broken then .broken
  else if a.link.turnSlot = some k then .granted
  else if a.link.parkedSlot = some k then .parked
  else if (a.slots.get k).line then .waiting
  else .idle

/-- The grant line of slot `k` (R178, R183). -/
def Arbiter.grantLine (a : Arbiter) (k : SlotId) : Bool := a.link.turnSlot = some k || a.link.parkedSlot = some k

/-- Slot `k` is WAITING (R182). -/
def Arbiter.isWaiting (a : Arbiter) (k : SlotId) : Bool :=
  (a.slots.get k).line && !(a.slots.get k).broken && a.link.turnSlot ≠ some k

/-- The three bits a role mask holds for a role; UNASSIGNED is reached by no class (R172). -/
def RoleMask.holds (m : RoleMask) : Role → Bool
  | .unassigned => false
  | .authority => m.authority
  | .operator => m.operator
  | .production _ => m.production
  | .observer => m.observer

/-- The class of a notice (R170). -/
def Notice.cls : Notice → NoticeClass
  | .hold .. => .hold
  | .exceed .. => .exceed
  | .curfewApproach _ => .curfew
  | .curfewStop _ => .curfew
  | .sensorChannel _ => .sensor
  | .sensorPoint _ => .sensor
  | .lowered .. => .lowered
  | .schedule _ => .schedule
  | .survey .. => .survey
  | .ring _ => .ring
  | .access .. => .access
  | .clock _ => .clock

/-- The place of a class in the order of priority, the highest 0; its priority number is one more (R170). -/
def NoticeClass.rank : NoticeClass → Fin 10
  | .hold => 0
  | .exceed => 1
  | .curfew => 2
  | .sensor => 3
  | .lowered => 4
  | .schedule => 5
  | .survey => 6
  | .ring => 7
  | .access => 8
  | .clock => 9

/-- The place of a notice in the order of priority. -/
def Notice.rank (n : Notice) : Nat := n.cls.rank.1

/-- The stage a HOLD or LOWERED notice names (R172). -/
def Notice.stageNamed : Notice → Option StageId
  | .hold t _ _ => some t
  | .lowered t _ => some t
  | _ => none

/-- A notice reaches a station: it is authorized, its role is in the class's mask, and for HOLD and LOWERED a production slot
is bound to the stage named (R172). -/
def Settings.reaches (g : Settings) (n : Notice) (k : SlotId) : Bool :=
  let st := g.stations.get k
  st.authorized && (g.dispatch.get n.cls.rank).holds st.role &&
    (match st.role, n.stageNamed with
     | .production t, some t' => t = t'
     | _, _ => true)

/-- A summary record, the kind that the full ring spends first (R164). -/
def RecordBody.isSummary : RecordBody → Bool
  | .intervalSummary .. => true
  | _ => false

end Sys2Proof.Machine
end

