-- ==== Sys2Proof/Machine/Ops.lean ====
section
/-!
DEFINITION. The shared operations: offering records to the ring (R163 to R165), posting notices (R172), reports that do both, the
free choice between two orders, and updates of one entry of a block.
-/

namespace Sys2Proof.Machine

/-- The outcome of every command: an unpowered part does nothing (assumption 2), a powered one takes the event whole. -/
def whenPowered (s : State) (f : State → State) : Host.Outcome State Fault Refusal :=
  .next (if s.powered then f s else s)

/-! ### One entry of a block -/

/-- The state with channel record `c` replaced. -/
def State.setChannel (s : State) (c : ChannelId) (x : Channel) : State := { s with sp := s.sp.set c x }
/-- The state with what the map keeps of point `k` replaced. -/
def State.setView (s : State) (k : PointId) (x : PointView) : State :=
  { s with pm := { s.pm with points := s.pm.points.set k x } }
/-- The state with the reference of stage `t` replaced. -/
def State.setRef (s : State) (t : StageId) (x : RefView) : State := { s with pm := { s.pm with refs := s.pm.refs.set t x } }
/-- The state with the integrator's point `k` replaced. -/
def State.setExposure (s : State) (k : PointId) (x : PointExposure) : State :=
  { s with ei := { s.ei with points := s.ei.points.set k x } }
/-- The state with the grant record of stage `t` replaced. -/
def State.setGrant (s : State) (t : StageId) (g : Grant) : State := { s with gu := { s.gu with grants := s.gu.grants.set t g } }
/-- The state with the stored settings replaced. -/
def State.withSettings (s : State) (g : Settings) : State := { s with settings := g }

/-! ### The record ring -/

/-- The places of the ring (R161). -/
def ringCapacity : Nat := 1024

/-- The ring's list without the oldest INTERVAL_SUMMARY it holds, wherever that stands (R164). -/
def dropOldestSummary : List Record → List Record
  | [] => []
  | r :: rs => if r.body.isSummary then rs else r :: dropOldestSummary rs

/-- The list after a record is offered (R163, R164). -/
def keptAfterOffer (list : List Record) (r : Record) : List Record :=
  if list.length < ringCapacity then list ++ [r]
  else if r.body.isSummary then list
  else if list.any (·.body.isSummary) then dropOldestSummary list ++ [r]
  else list

/-- The ring takes one offer whole: it numbers the record, stamps it with the clock, and keeps, drops or displaces
(R163, R164). -/
def RecordRing.offer (q : RecordRing) (stamp : Time) (body : RecordBody) : RecordRing where
  list := keptAfterOffer q.list ⟨q.next, stamp, body⟩
  lost := if q.list.length < ringCapacity then q.lost else min 65535 (q.lost + 1)
  next := (q.next + 1) % 2 ^ 32

/-- An offer that posts no RING as it is made: those a reset makes before the pending sets are emptied (R168). -/
def offerQuiet (body : RecordBody) (s : State) : State := { s with rr := s.rr.offer s.su.clock body }

/-! ### Notices -/

/-- A notice put into a pending set: it joins at its priority, or replaces the detail of its class (R172). -/
def putNotice (n : Notice) : List Notice → List Notice
  | [] => [n]
  | m :: ms => if n.rank < m.rank then n :: m :: ms else if n.rank = m.rank then n :: ms else m :: putNotice n ms

/-- A posting reaches every slot it is entitled to, in the event that makes it (R172). -/
def post (n : Notice) (s : State) : State :=
  { s with nu := s.nu.renew fun k q => if s.settings.reaches n k then { q with pending := putNotice n q.pending } else q }

/-- An offer, with the RING notice where it brings the held count from below the attention threshold to it (R168). -/
def offer (body : RecordBody) (s : State) : State :=
  let s' := offerQuiet body s
  if s.rr.list.length < s.settings.timing.threshold ∧ s.settings.timing.threshold ≤ s'.rr.list.length then
    post (.ring s'.rr.list.length) s'
  else s'

/-! ### Reports -/

/-- A record with the notice that goes with it, if any. -/
structure Report where
  body : RecordBody
  notice : Option Notice
  deriving DecidableEq, Repr

/-- A report is made: the record is offered, then its notice is posted, whether the ring kept the record or not (R163). -/
def report (r : Report) (s : State) : State :=
  let s' := offer r.body s
  match r.notice with
  | none => s'
  | some n => post n s'

/-- Several reports in order. -/
def reportAll (rs : List Report) (s : State) : State := rs.foldl (fun s r => report r s) s

/-- Several offers of a reset in order, without RING (R168). -/
def offerAllQuiet (bs : List RecordBody) (s : State) : State := bs.foldl (fun s b => offerQuiet b s) s

/-- The reports of two blocks that fall together in one event, in either order (R163): where both report, the order is the
free value of this draw. -/
def reportEither (as bs : List Report) (s : State) : State :=
  if as = [] ∨ bs = [] then reportAll (as ++ bs) s
  else
    let s' := { s with draws := s.draws + 1 }
    if Config.freeOrder s.draws then reportAll (as ++ bs) s' else reportAll (bs ++ as) s'

end Sys2Proof.Machine
end

