-- ==== Sys2Proof/Machine/Link.lean ====
section
/-!
DEFINITION. The link arbiter and access unit (09_station_link_and_access_control.md): turns, misses, arbitration, parking, and the
judgement of a request. The commands of the family that carry no request stand at the end, RESPONSE_END in StartUp.lean.
-/

namespace Sys2Proof.Machine

/-! ### Arbitration (R182, R183) -/

/-- The level-2 slots in the order they are tried: ascending from the slot after the pointer, wrapping from 7 to 1 (R182). -/
def level2Order (pointer : SlotId) : List SlotId :=
  (List.range 7).map fun i => ⟨(pointer.1 + i) % 7 + 1, by omega⟩

/-- The slot the arbiter chooses among those waiting, by the rotation in two levels (R182). -/
def Arbiter.choice (a : Arbiter) : Option SlotId :=
  let zero := if a.isWaiting 0 then some 0 else none
  let two := (level2Order a.level2).find? a.isWaiting
  if a.level1Zero then two.or zero else zero.or two

/-- The slot to park on: the target of the park mode, passed over in favour of the default slot where it is BROKEN, none where
that is BROKEN too (R183). -/
def Arbiter.parkTarget (a : Arbiter) (g : ArbiterSettings) : Option SlotId :=
  let target := match g.park with
    | .last => a.lastGranted.getD g.defaultSlot
    | .default => g.defaultSlot
  if !(a.slots.get target).broken then some target
  else if !(a.slots.get g.defaultSlot).broken then some g.defaultSlot
  else none

/-- A turn is given to slot `k`; the pointers move to it (R182), for a parked slot that begins a frame as well (R183). -/
def Arbiter.give (a : Arbiter) (k : SlotId) (begun : Bool) : Arbiter :=
  { a with
    link := .turn k begun
    level1Zero := k = 0
    level2 := if k = 0 then a.level2 else k
    lastGranted := some k }

/-- The link becomes free, and the arbiter chooses or parks (R182, R183). -/
def Arbiter.arbitrate (a : Arbiter) (g : ArbiterSettings) : Arbiter :=
  let a := { a with link := .free none }
  match a.choice with
  | some k => a.give k false
  | none => { a with link := .free (a.parkTarget g) }

/-- A turn ends with the link free (R178, R181). -/
def freeLink (s : State) : State := { s with la := s.la.arbitrate s.settings.arbiter }

/-- The arbiter's entry of slot `k` replaced. -/
def State.setArb (s : State) (k : SlotId) (x : ArbSlot) : State := { s with la := { s.la with slots := s.la.slots.set k x } }

/-- The slot whose frame is under way, with the turn it runs in. A frame of a parked slot starts a turn (R183, assumption 12). -/
def frameTurn (s : State) : Option (SlotId × State) :=
  match s.la.link with
  | .turn k _ => some (k, s)
  | .free (some k) => some (k, { s with la := s.la.give k true })
  | _ => none

/-! ### Misses and isolation (R179, R180) -/

/-- The report of an ACCESS event: the record and the notice (R180, R185, R188). -/
def accessReport (k : SlotId) (e : AccessEvent) (code : Byte) : Report := ⟨.access k e code, some (.access k e)⟩

/-- A miss is charged to the slot that holds the grant: the miss run rises, and with isolation enabled a run of 3 or more makes
a slot from 1 to 7 BROKEN, with its record and notice (R179, R180). -/
def countMiss (k : SlotId) (s : State) : State :=
  let x := s.la.slots.get k
  let run := min 255 (x.missRun + 1)
  let breaks := s.settings.arbiter.isolation && k ≠ 0 && 3 ≤ run && !x.broken
  let s := s.setArb k { x with missRun := run, broken := x.broken || breaks }
  if breaks then report (accessReport k .broken 0) s else s

/-- A miss after which the link is free at once (R178, R179). -/
def missFree (s : State) : State :=
  match frameTurn s with
  | none => s
  | some (k, s) => freeLink (countMiss k s)

/-- A miss for a long or unfinished frame: the grant is released, and the link is not free until the pair has been idle
(R178, R179). -/
def missClearing (s : State) : State :=
  match frameTurn s with
  | none => s
  | some (k, s) =>
    let s := countMiss k s
    { s with la := { s.la with link := .clearing } }

/-! ### Judging a request (R188) -/

/-- What the owner of a request answers: the state after it and the response. -/
abbrev Owner := SlotId → List Byte → State → State × Response

/-- Answered OK with a payload. -/
def ok (payload : List Byte) (s : State) : State × Response := (s, ⟨.ok, payload⟩)
/-- Turned down with a status: nothing changes (R190). -/
def turnDown (st : Status) (s : State) : State × Response := (s, ⟨st, []⟩)

/-- The five survey requests, which the authority may not send (R189). -/
def Request.isSurvey : Request → Bool
  | .surveyStart | .surveyAbort | .surveyAccept | .surveyDiscard | .surveyRead => true
  | _ => false

/-- The requests of the OPERATOR row (R189). -/
def Request.ofOperator : Request → Bool
  | .sessionOpen | .sessionClose | .pointWrite | .stageWrite | .channelBind | .shareWrite | .couplingWrite | .couplingRead
  | .surveyStart | .surveyAbort | .surveyAccept | .surveyDiscard | .surveyRead | .grantQuery | .schedRead => true
  | _ => false

/-- The requests the AUTHORITY row adds to the operator's (R189). -/
def Request.ofAuthority : Request → Bool
  | .schedWrite | .schedClear | .schedCommit | .sessionLimitWrite | .fallbackWrite | .timeSet | .roleWrite | .dispatchWrite
  | .holdForce | .holdUnforce | .recordRead | .recordRelease | .arbWrite | .arbClear | .storeSave | .reset | .timingWrite => true
  | _ => false

/-- The requests of the OBSERVER row (R189). -/
def Request.ofObserver : Request → Bool
  | .statusRead | .levelsRead | .schedRead | .couplingRead | .recordRead => true
  | _ => false

/-- The requests of any authorized role (R189). -/
def Request.ofAny : Request → Bool
  | .statusRead | .levelsRead | .noticeEnable => true
  | _ => false

/-- The production requests of the slot's own stage: the first parameter byte is the stage, checked only on a frame whose length
matches the request's form (R189). -/
def ownStage (t : StageId) (r : Request) (params : List Byte) : Bool :=
  (r = .grantQuery || r = .grantAck) &&
    (!(r.forms.contains params.length) || (params.head?.map (·.toNat)) = some t.1)

/-- The permission table for an authorized slot (R189). -/
def permitted (role : Role) (r : Request) (params : List Byte) : Bool :=
  match role with
  | .unassigned => false
  | .authority => r.ofAny || (r.ofOperator && !r.isSurvey) || r.ofAuthority
  | .operator => r.ofAny || r.ofOperator
  | .production t => r.ofAny || ownStage t r params
  | .observer => r.ofAny || r.ofObserver

/-- The part sends its response in slot `k`'s turn (R178). -/
def respond (k : SlotId) (r : Response) (s : State) : State :=
  { s with la := { s.la with link := .responding k, response := some r } }

/-- Steps 2 to 5 of R188: request code, permission, form, owner. -/
def judge (k : SlotId) (req : Option Request) (allowed : Request → Bool) (owner : Owner) (params : List Byte) (s : State) :
    State :=
  match req with
  | none => respond k ⟨.unknown, []⟩ s
  | some r =>
    if !allowed r then respond k ⟨.role, []⟩ s
    else if !(r.forms.contains params.length) then respond k ⟨.param, []⟩ s
    else
      let a := owner k params s
      respond k a.2 a.1

/-- A good frame is taken as one request of slot `k` (R188): the miss run is cleared (R179), the sender's authorization is
judged, then steps 2 to 5. -/
def takeRequest (k : SlotId) (code : Byte) (req : Option Request) (owner : Owner) (params : List Byte) (s : State) : State :=
  let s := s.setArb k { s.la.slots.get k with missRun := 0 }
  let st := s.settings.stations.get k
  if st.authorized then judge k req (fun r => permitted st.role r params) owner params s
  else
    let s := report (accessReport k .unauthorized code) s
    match st.treatment with
    | .drop => freeLink s
    | .refuse => respond k ⟨.role, []⟩ s
    | .demote => judge k req Request.ofObserver owner params s

/-- A request arrives: it is that of the slot whose frame is under way; with none, nothing arrives (assumption 2). -/
def arrive (code : Byte) (req : Option Request) (owner : Owner) (params : List Byte) (s : State) : State :=
  match frameTurn s with
  | none => s
  | some (k, s) => takeRequest k code req owner params s

/-- A known request arrives. -/
def serve (r : Request) (owner : Owner) (params : List Byte) (s : State) : State := arrive r.code (some r) owner params s

/-! ### The commands of the link -/

/-- REQUEST_LINE_ASSERTED (R181 to R183): the line is a level; on a free link the assertion ends the park and the arbiter
chooses. A BROKEN slot's line is ignored. The pin keeps its level without supply, for the next power-up to read (R185). -/
def requestLineAsserted (k : SlotId) (s : State) : State :=
  let s := s.setArb k { s.la.slots.get k with line := true }
  if s.powered && s.la.link.isFree && !(s.la.slots.get k).broken then freeLink s else s

/-- REQUEST_LINE_RELEASED (R181): a WAITING slot returns to IDLE, a granted one keeps its turn. -/
def requestLineReleased (k : SlotId) (s : State) : State := s.setArb k { s.la.slots.get k with line := false }

/-- PARKED_FRAME_START (R183): the parked slot enters GRANTED with its frame begun. -/
def parkedFrameStart (s : State) : State :=
  match s.la.link with
  | .free (some k) => { s with la := s.la.give k true }
  | _ => s

/-- GRANT_WINDOW_EXPIRY (R179): a granted slot whose frame has not begun misses. -/
def grantWindowExpiry (s : State) : State :=
  match s.la.link with
  | .turn _ false => missFree s
  | _ => s

/-- FRAME_LENGTH_EXCESS (R179, R201): a parameter length above 59 gives a frame longer than 64 bytes. -/
def frameLengthExcess (length : Byte) (s : State) : State := if 59 < length.toNat then missClearing s else s

/-- BAD_FRAME_END (R179): the frame is a miss where its check finds a fault; a frame without one is no bad frame. -/
def badFrameEnd (chars : List RxChar) (s : State) : State :=
  match frameTurn s with
  | none => s
  | some (k, _) => if (frameFault k chars).isSome then missFree s else s

/-- LINK_IDLE_GAP (R178): the link becomes free. -/
def linkIdleGap (s : State) : State :=
  match s.la.link with
  | .clearing => freeLink s
  | _ => s

def execRequestLineAsserted (k : SlotId) (s : State) : Host.Outcome State Fault Refusal := .next (requestLineAsserted k s)
def execRequestLineReleased (k : SlotId) (s : State) : Host.Outcome State Fault Refusal := .next (requestLineReleased k s)
/-- PARKED_WINDOW_EXPIRY (R183): the window runs again, no miss is counted; the state holds no window (assumption 11). -/
def execParkedWindowExpiry (s : State) : Host.Outcome State Fault Refusal := whenPowered s id
def execParkedFrameStart (s : State) : Host.Outcome State Fault Refusal := whenPowered s parkedFrameStart
def execGrantWindowExpiry (s : State) : Host.Outcome State Fault Refusal := whenPowered s grantWindowExpiry
def execFrameLengthExcess (length : Byte) (s : State) : Host.Outcome State Fault Refusal :=
  whenPowered s (frameLengthExcess length)
/-- FRAME_TIME_LIMIT (R179): a frame not complete 1 ms after its start is a miss, and the pair must go idle. -/
def execFrameTimeLimit (s : State) : Host.Outcome State Fault Refusal := whenPowered s missClearing
def execBadFrameEnd (chars : List RxChar) (s : State) : Host.Outcome State Fault Refusal := whenPowered s (badFrameEnd chars)
def execLinkIdleGap (s : State) : Host.Outcome State Fault Refusal := whenPowered s linkIdleGap
/-- UNKNOWN_REQUEST (R188): a good frame whose code names no request; an authorized or demoted sender is answered UNKNOWN. -/
def execUnknownRequest (code : Byte) (params : List Byte) (s : State) : Host.Outcome State Fault Refusal :=
  whenPowered s (arrive code none (fun _ _ s => turnDown .unknown s) params)

/-! ### ARB_WRITE and ARB_CLEAR -/

/-- ARB_WRITE (R184). -/
def ownerArbWrite : Owner := fun _ params s =>
  match readArbiter params with
  | none => turnDown .param s
  | some g => if s.isSaving then turnDown .busy s else ok [] (s.withSettings { s.settings with arbiter := g })

/-- ARB_CLEAR (R185): a BROKEN slot returns to use, WAITING where its line is asserted. -/
def ownerArbClear : Owner := fun _ params s =>
  match readIndex 8 params with
  | none => turnDown .param s
  | some k =>
    let x := s.la.slots.get k
    if !x.broken then turnDown (.state .notBroken) s
    else ok [] (report (accessReport k .cleared 0) (s.setArb k { x with broken := false, missRun := 0 }))

def execArbWrite (params : List Byte) (s : State) : Host.Outcome State Fault Refusal :=
  whenPowered s (serve .arbWrite ownerArbWrite params)
def execArbClear (params : List Byte) (s : State) : Host.Outcome State Fault Refusal :=
  whenPowered s (serve .arbClear ownerArbClear params)

end Sys2Proof.Machine
end

