-- ==== Sys2Proof/Machine/Survey.lean ====
section
/-!
DEFINITION. The coupling table and survey unit (05_coupling_table_and_survey.md): the table's requests, the survey's requests, how it
counts a second snapshot, and its abandonment. SURVEY_READ's payload is in Payloads.lean.
-/

namespace Sys2Proof.Machine

/-- The survey is abandoned: ABORTED with its reason, the target withdrawn with SIGNAL, SURVEY posted (R104). -/
def abandonSurvey (why : SurveyReason) (s : State) : State :=
  post (.survey (some why) s.cs.stage) { s with cs := { s.cs with state := .aborted, reason := some why } }

/-- The surveyed stage's reference leaves LIVE: a survey of stage `t` in QUIET or SIGNAL is abandoned (R104). -/
def surveyLosesReference (t : StageId) (s : State) : State :=
  if s.cs.running ∧ s.cs.stage = t then abandonSurvey .channelLost s else s

/-! ### Counting a snapshot (R97 to R103) -/

/-- A stage's second is loud against a threshold: seeing with L_s at or above it. -/
def Second.loud (x : Second) (threshold : Nat) : Bool :=
  match x with
  | .blind => false
  | .seeing l => threshold ≤ l

/-- A second is excluded (R97, R98): the surveyed stage's second is blind, or another enabled stage's second is blind or at or
above that stage's idle threshold. -/
def excludedSecond (stages : Bank 4 StageSettings) (snap : Snapshot) (t : StageId) : Bool :=
  (snap.stages.get t).second = .blind ||
    allStages.any fun u => u ≠ t && (stages.get u).enabled &&
      ((snap.stages.get u).second = .blind || (snap.stages.get u).second.loud (stages.get u).idle)

/-- Each point counted into the sums of a phase, for itself alone (R99). -/
def countPoints (snap : Snapshot) (sums : Bank 8 PhaseSum) : Bank 8 PhaseSum :=
  sums.renew fun k x =>
    let q := snap.points.get k
    if q.enabled ∧ q.blind = 0 then { x with energy := x.energy + q.energy, frames := x.frames + 10 }
    else { x with unusable := x.unusable + 1 }

/-- The result of one point (R103). -/
def pointResult (d : Nat) (quiet signal : PhaseSum) (r : Nat) : PointResult :=
  if d < quiet.unusable * 2 ∨ d < signal.unusable * 2 ∨ quiet.frames = 0 ∨ signal.frames = 0 then ⟨none, none, none⟩
  else
    let b := mean quiet.energy quiet.frames
    let sk := mean signal.energy signal.frames
    let code := if 2 * b ≤ sk ∧ 2 ≤ sk then some (clampInt (-9000) 0 ((lv (sk - b : Nat) : Int) - lv r)) else none
    ⟨code, some (lv b), some (lv sk)⟩

/-- The result table (R103). -/
def surveyResults (v : Survey) : SurveyResults :=
  let r := mean v.refEnergy v.refFrames
  ⟨lv r, v.quiet.renew fun k q => pointResult v.d q (v.signal.get k) r⟩

/-- A QUIET second that does not abandon the survey (R97, R100). -/
def quietSecond (stages : Bank 4 StageSettings) (snap : Snapshot) (v : Survey) : Survey :=
  let v := if excludedSecond stages snap v.stage then { v with excluded := v.excluded + 1 }
    else { v with quiet := countPoints snap v.quiet }
  let v := { v with phaseSecs := v.phaseSecs + 1 }
  if v.d ≤ v.phaseSecs then { v with state := .signal, phaseSecs := 0, strong := 0 } else v

/-- The counts of a SIGNAL second (R98). -/
def signalSecond (stages : Bank 4 StageSettings) (snap : Snapshot) (v : Survey) : Survey :=
  let mine := snap.stages.get v.stage
  let v := if mine.second.loud ((stages.get v.stage).idle + 2000) then { v with strong := v.strong + 1 } else v
  let v := if excludedSecond stages snap v.stage then { v with excluded := v.excluded + 1 }
    else { v with
      refEnergy := v.refEnergy + mine.energy, refFrames := v.refFrames + 10, signal := countPoints snap v.signal }
  { v with phaseSecs := v.phaseSecs + 1 }

/-- The end of SIGNAL: interference, weak signal, or completion (R102). -/
def endSignal (s : State) : State :=
  if s.cs.d < s.cs.excluded * 2 then abandonSurvey .interference s
  else if s.cs.strong * 10 < 9 * s.cs.d then abandonSurvey .weakSignal s
  else post (.survey none s.cs.stage) { s with cs := { s.cs with state := .done, results := some (surveyResults s.cs) } }

/-- The unit takes a snapshot (R96 to R102). -/
def surveySnapshot (snap : Snapshot) (s : State) : State :=
  match s.cs.state with
  | .quiet =>
    if (snap.stages.get s.cs.stage).second.loud (s.settings.stages.get s.cs.stage).idle then abandonSurvey .notQuiet s
    else { s with cs := quietSecond s.settings.stages snap s.cs }
  | .signal =>
    let s := { s with cs := signalSecond s.settings.stages snap s.cs }
    if s.cs.d ≤ s.cs.phaseSecs then endSignal s else s
  | _ => s

/-! ### Requests -/

/-- The coupling entry K_sk. -/
def Settings.couplingOf (g : Settings) (t : StageId) (k : PointId) : Option Int := (g.coupling.get t).get k

/-- The settings with one coupling entry replaced. -/
def Settings.setCoupling (g : Settings) (t : StageId) (k : PointId) (x : Option Int) : Settings :=
  { g with coupling := g.coupling.set t ((g.coupling.get t).set k x) }

/-- COUPLING_WRITE (R91). -/
def ownerCouplingWrite : Owner := fun _ params s =>
  match readCoupling params with
  | none => turnDown .param s
  | some (t, k, x) =>
    if s.sessionIsOpen then turnDown (.state .sessionOpen) s
    else if s.isSaving then turnDown .busy s
    else ok [] (s.withSettings (s.settings.setCoupling t k x))

/-- COUPLING_READ (R92): the stage's row, points 0 to 7. -/
def ownerCouplingRead : Owner := fun _ params s =>
  match readIndex 4 params with
  | none => turnDown .param s
  | some t => ok (allPoints.flatMap fun k => couplingBytes (s.settings.couplingOf t k)) s

/-- The survey record of an accepted SURVEY_START (R95). -/
def startedSurvey (t : StageId) (d level : Nat) : Survey :=
  { Survey.afterReset with state := .quiet, stage := t, d := d, level := level }

/-- SURVEY_START (R95). -/
def ownerSurveyStart : Owner := fun _ params s =>
  match readSurvey params with
  | none => turnDown .param s
  | some (t, d, level) =>
    let g := s.settings.stages.get t
    if level < g.floor ∨ g.top < level then turnDown .param s
    else if s.sessionIsOpen then turnDown (.state .sessionOpen) s
    else if s.cs.running then turnDown (.state .survey) s
    else if !g.enabled then turnDown (.state .stageDisabled) s
    else if !(s.isLive (s.settings.holder (.reference t))) then turnDown (.state .reference) s
    else ok [] { s with cs := startedSurvey t d level }

/-- SURVEY_ABORT (R105). -/
def ownerSurveyAbort : Owner := fun _ _ s =>
  if s.cs.running then ok [] (abandonSurvey .operator s) else turnDown (.state .noSurvey) s

/-- The survey back in IDLE: reason, counts, sums and results empty; stage, d and survey level as they stood (R107 to R109,
assumption 18). -/
def Survey.cleared (v : Survey) : Survey := { Survey.afterReset with stage := v.stage, d := v.d, level := v.level }

/-- The coupling table with the RESOLVED codes of a result table in row `t` (R107). -/
def Settings.acceptResults (g : Settings) (t : StageId) (r : SurveyResults) : Settings :=
  { g with coupling := g.coupling.set t ((g.coupling.get t).renew fun k x => ((r.points.get k).code).or x) }

/-- SURVEY_ACCEPT (R107). -/
def ownerSurveyAccept : Owner := fun _ _ s =>
  if s.cs.state ≠ .done then turnDown (.state .notDone) s
  else if s.sessionIsOpen then turnDown (.state .sessionOpen) s
  else if s.isSaving then turnDown .busy s
  else
    let g := match s.cs.results with
      | none => s.settings
      | some r => s.settings.acceptResults s.cs.stage r
    ok [] { s with settings := g, cs := s.cs.cleared }

/-- SURVEY_DISCARD (R108). -/
def ownerSurveyDiscard : Owner := fun _ _ s =>
  if s.cs.state = .done ∨ s.cs.state = .aborted then ok [] { s with cs := s.cs.cleared }
  else turnDown (.state .notDone) s

def execCouplingWrite (params : List Byte) (s : State) : Host.Outcome State Fault Refusal :=
  whenPowered s (serve .couplingWrite ownerCouplingWrite params)
def execCouplingRead (params : List Byte) (s : State) : Host.Outcome State Fault Refusal :=
  whenPowered s (serve .couplingRead ownerCouplingRead params)
def execSurveyStart (params : List Byte) (s : State) : Host.Outcome State Fault Refusal :=
  whenPowered s (serve .surveyStart ownerSurveyStart params)
def execSurveyAbort (params : List Byte) (s : State) : Host.Outcome State Fault Refusal :=
  whenPowered s (serve .surveyAbort ownerSurveyAbort params)
def execSurveyAccept (params : List Byte) (s : State) : Host.Outcome State Fault Refusal :=
  whenPowered s (serve .surveyAccept ownerSurveyAccept params)
def execSurveyDiscard (params : List Byte) (s : State) : Host.Outcome State Fault Refusal :=
  whenPowered s (serve .surveyDiscard ownerSurveyDiscard params)

end Sys2Proof.Machine
end

