-- ==== Sys2Proof/Machine/Sensors.lean ====
section
/-!
DEFINITION. The sensor ports and the point and stage map (02_sensor_channels_and_monitoring_points.md): arrivals, the silence timer,
the selection of sources and references, and CHANNEL_BIND.
-/

namespace Sys2Proof.Machine

/-! ### Source selection and references (R29, R31, R32) -/

/-- The source of point `k` by the fixed order PRIMARY, STANDBY, BLIND; DISABLED where it is disabled (R29). -/
def State.selectSource (s : State) (k : PointId) : Source :=
  if !(s.settings.points.get k).enabled then .disabled
  else if s.isLive (s.settings.holder (.primary k)) then .primary
  else if s.isLive (s.settings.holder (.standby k)) then .standby
  else .blind

/-- The source of point `k` selected afresh, without a report. -/
def setSource (k : PointId) (s : State) : State := s.setView k { s.pm.points.get k with source := s.selectSource k }

/-- The report of a point whose source state changed from `old`, none where it stayed (R31). -/
def sourceReports (k : PointId) (old new : Source) : List Report :=
  if new = old then [] else [⟨.sensorPoint k new, some (.sensorPoint k)⟩]

/-- A point's source is selected and a change is reported (R29, R31). -/
def reselect (k : PointId) (s : State) : State :=
  reportAll (sourceReports k (s.pm.points.get k).source (s.selectSource k)) (setSource k s)

/-- A stage reference is evaluated: it sees while its channel is LIVE. One that does not see abandons a survey of its stage
(R32, R104). -/
def reevaluate (t : StageId) (s : State) : State :=
  let live := s.isLive (s.settings.holder (.reference t))
  let s := s.setRef t { s.pm.refs.get t with seeing := live }
  if live then s else surveyLosesReference t s

/-- What follows a change of a channel's state in the map, by the channel's binding (R29, R32). -/
def followBinding (b : Binding) (s : State) : State :=
  match b with
  | .unused => s
  | .primary k => reselect k s
  | .standby k => reselect k s
  | .reference t => reevaluate t s

/-! ### Arrivals (R15 to R23) -/

/-- The channel becomes STALE or FAULTED with record and notice, and the map follows (R22, R31). -/
def enterFailed (c : ChannelId) (x : Channel) (s : State) : State :=
  followBinding (s.settings.channelMap.get c).binding
    (report ⟨.sensorChannel c x.state, some (.sensorChannel c)⟩ (s.setChannel c x))

/-- A channel changes to a state whose entry the sensor ports do not report, and the map follows (R22, R29). -/
def enterQuietly (c : ChannelId) (x : Channel) (s : State) : State :=
  followBinding (s.settings.channelMap.get c).binding (s.setChannel c x)

/-- The channel entering STALE: its last accepted sequence is none (R22). -/
def Channel.toStale (x : Channel) : Channel := { x with state := .stale, lastSeq := none }

/-- SETTLING or LIVE, the states that a silence or five bad frames take to STALE (R16, R21). -/
def ChannelState.counting : ChannelState → Bool
  | .settling => true
  | .live => true
  | _ => false

/-- A bad frame (R16). -/
def badFrame (c : ChannelId) (s : State) : State :=
  let x := s.sp.get c
  let x := { x with badRun := min 255 (x.badRun + 1) }
  if 5 ≤ x.badRun && x.state.counting then enterFailed c x.toStale s else s.setChannel c x

/-- The standby offset of the point a channel stands by for, 0 for a channel bound otherwise (R23). -/
def Settings.offsetOf (g : Settings) (c : ChannelId) : Int :=
  match (g.channelMap.get c).binding with
  | .standby k => (g.points.get k).standbyOffset
  | _ => 0

/-- A good frame added to a slot, its levels converted with the offset; a slot with count 255 takes nothing (R23). -/
def FrameSlot.add (q : FrameSlot) (la lc : Nat) (off : Int) (overload : Bool) (gap : Nat) : FrameSlot :=
  if 255 ≤ q.count then q
  else
    ⟨q.aSum + p (la + off), q.cSum + p (lc + off), q.count + 1, q.overload + (if overload then 1 else 0),
     min 65535 (q.gap + gap)⟩

/-- The gap frames of a good frame: one less than the jump of its sequence, none after none (R19). -/
def gapFrames (last : Option Nat) (seq : Nat) : Nat :=
  match last with
  | none => 0
  | some l => (seq + 256 - l) % 256 - 1

/-- The frame's sequence repeats the last accepted one: a duplicate (R19). -/
def isDuplicate (last : Option Nat) (seq : Nat) : Bool :=
  match last with
  | none => false
  | some l => (seq + 256 - l) % 256 = 0

/-- What every good frame does to the channel record (R19): sequence, bad run, silence timer, levels after the clamp of R23. -/
def Channel.accept (x : Channel) (f : HeadFrame) : Channel :=
  { x with lastSeq := some f.seq, badRun := 0, silence := true, la := min 14000 f.la, lc := min 14000 f.lc }

/-- A good frame acts by its flags and by the channel state (R20). -/
def goodFrame (c : ChannelId) (f : HeadFrame) (s : State) : State :=
  let old := s.sp.get c
  let x := old.accept f
  let added := { x with slot := x.slot.add x.la x.lc (s.settings.offsetOf c) f.overload (gapFrames old.lastSeq f.seq) }
  if f.headFault then enterFailed c { x with state := .faulted } s
  else if f.calibrating then enterQuietly c { x with state := .calibrating } s
  else
    match x.state with
    | .settling =>
      if 10 ≤ x.goodCount + 1 then enterQuietly c { added with state := .live, goodCount := 10 } s
      else s.setChannel c { added with goodCount := x.goodCount + 1 }
    | .live => s.setChannel c added
    | _ => enterQuietly c { x with state := .settling, goodCount := 0 } s

/-- A received frame: discarded in UNBOUND and FAULTED (R17); otherwise checked for identity (R18) and sequence (R19). -/
def receivedFrame (c : ChannelId) (f : HeadFrame) (s : State) : State :=
  let x := s.sp.get c
  match x.state with
  | .unbound => s
  | .faulted => s
  | _ =>
    if x.accepted ≠ 0 ∧ x.accepted ≠ f.identity then enterFailed c { x with state := .faulted } s
    else
      let s := s.setChannel c { x with accepted := f.identity }
      if isDuplicate x.lastSeq f.seq then s else goodFrame c f s

/-- FRAME_ARRIVAL (R15, R16): a receiver that still waits for its idle gap gives no arrival. -/
def frameArrival (c : ChannelId) (cand : List RxChar) (s : State) : State :=
  if !(s.sp.get c).receiving then s
  else
    match headFrame cand with
    | none => badFrame c s
    | some f => receivedFrame c f s

/-- SILENCE_TIMER_EXPIRY (R21): a running timer expires; SETTLING and LIVE go to STALE. -/
def silenceTimerExpiry (c : ChannelId) (s : State) : State :=
  let x := s.sp.get c
  if !x.silence then s
  else
    let x := { x with silence := false }
    if x.state.counting then enterFailed c x.toStale s else s.setChannel c x

/-- RECEIVER_IDLE_GAP (R15). -/
def receiverIdleGap (c : ChannelId) (s : State) : State := s.setChannel c { s.sp.get c with receiving := true }

def execFrameArrival (c : ChannelId) (cand : List RxChar) (s : State) : Host.Outcome State Fault Refusal :=
  whenPowered s (frameArrival c cand)
def execSilenceTimerExpiry (c : ChannelId) (s : State) : Host.Outcome State Fault Refusal := whenPowered s (silenceTimerExpiry c)
def execReceiverIdleGap (c : ChannelId) (s : State) : Host.Outcome State Fault Refusal := whenPowered s (receiverIdleGap c)

/-! ### CHANNEL_BIND (R26, R27) -/

/-- The channel record of a channel that becomes UNBOUND: the values R34 gives a channel bound UNUSED (R26). -/
def Channel.toUnbound (x : Channel) : Channel :=
  { Channel.afterReset ⟨.unused, 0⟩ with receiving := x.receiving }

/-- The channel record after CHANNEL_BIND gave it the entry `e` (R26). The last accepted levels of a channel bound otherwise
than UNUSED stand. -/
def Channel.bound (x : Channel) (e : MapEntry) : Channel :=
  match e.binding with
  | .unused => x.toUnbound
  | _ => { x with
      state := .settling, accepted := e.expected, lastSeq := none, goodCount := 0, badRun := 0, silence := true, slot := .empty }

/-- The map after the channel took its entry and another holder of the same binding lost it (R26, steps 1 to 3). The displaced
channel keeps its expected identity (assumption 22). -/
def bindMap (m : Bank 16 MapEntry) (c : ChannelId) (e : MapEntry) : Bank 16 MapEntry :=
  m.renew fun i x =>
    if i = c then e else if e.binding ≠ .unused ∧ x.binding = e.binding then { x with binding := .unused } else x

/-- The records after a bind: the channel's own, and a displaced holder's (R26). -/
def bindRecords (m : Bank 16 MapEntry) (sp : Bank 16 Channel) (c : ChannelId) (e : MapEntry) : Bank 16 Channel :=
  sp.renew fun i x =>
    if i = c then x.bound e
    else if e.binding ≠ .unused ∧ (m.get i).binding = e.binding then x.toUnbound
    else x

/-- The points a binding names. -/
def Binding.points : Binding → List PointId
  | .primary k => [k]
  | .standby k => [k]
  | _ => []

/-- The stages a binding names. -/
def Binding.stages : Binding → List StageId
  | .reference t => [t]
  | _ => []

/-- The reports of the points that one binding names, between two states. -/
def bindReports (b : Binding) (old new : State) : List Report :=
  b.points.flatMap fun k => sourceReports k (old.pm.points.get k).source (new.pm.points.get k).source

/-- A reference whose channel changed starts with held power 1 pu (R32), and is evaluated. -/
def rebindReference (old : Settings) (t : StageId) (s : State) : State :=
  let s := if old.holder (.reference t) = s.settings.holder (.reference t) then s
    else s.setRef t { s.pm.refs.get t with held := 1 }
  reevaluate t s

/-- An accepted CHANNEL_BIND (R26): the map and the records change, then the sources of the points named by the old and the new
binding are selected, and the references are evaluated. Where two points change, their reports stand in either order
(assumption 5). -/
def bindChannel (c : ChannelId) (e : MapEntry) (s : State) : State :=
  let old := s.settings.channelMap.get c
  let s1 := { s with
    settings := { s.settings with channelMap := bindMap s.settings.channelMap c e }
    sp := bindRecords s.settings.channelMap s.sp c e }
  let pts := old.binding.points ++ e.binding.points
  let s2 := pts.foldl (fun s k => setSource k s) s1
  let rs := bindReports old.binding s s2
  let rs' := if e.binding.points = old.binding.points then [] else bindReports e.binding s s2
  let s3 := reportEither rs rs' s2
  (old.binding.stages ++ e.binding.stages).foldl (fun s' t => rebindReference s.settings t s') s3

/-- The position of a channel state in R17's list (R198). -/
def ChannelState.code : ChannelState → Nat
  | .unbound => 0
  | .settling => 1
  | .live => 2
  | .calibrating => 3
  | .stale => 4
  | .faulted => 5

/-- CHANNEL_BIND (R26, R27): answered OK with the channel's new state. -/
def ownerChannelBind : Owner := fun _ params s =>
  match readBind params with
  | none => turnDown .param s
  | some (c, e) =>
    if s.sessionIsOpen then turnDown (.state .sessionOpen) s
    else if s.isSaving then turnDown .busy s
    else
      let s := bindChannel c e s
      ok (u8 (s.sp.get c).state.code) s

def execChannelBind (params : List Byte) (s : State) : Host.Outcome State Fault Refusal :=
  whenPowered s (serve .channelBind ownerChannelBind params)

end Sys2Proof.Machine
end

