-- ==== Sys2Proof/Machine/Integrator.lean ====
section
/-!
DEFINITION. The exposure integrator (03_the_exposure_integrator.md), up to the parts that one frame boundary joins: frame work,
the tiers and their episodes, the closes, the snapshot, the session accumulator, and the adjustment of the buckets. The
boundary itself is in Boundary.lean.
-/

namespace Sys2Proof.Machine

/-! ### Limits and episodes -/

/-- The limits in force at point `k` (R42). -/
def State.limitsOf (s : State) (k : PointId) : ZoneLimits := s.su.limits.zones.get (s.settings.points.get k).zone

/-- C_F of a fast limit (R43). -/
def fullBucket (lf depth : Nat) : Nat := p lf * depth

/-- The episode of a tier, `none` where the tier is CLEAR (R52). -/
def PointExposure.episode (x : PointExposure) : Tier → Option Episode
  | .fast => x.fastEp
  | .window => x.windowEp
  | .session => x.sessionEp

/-- The point with the episode of one tier replaced. -/
def PointExposure.setEpisode (x : PointExposure) (tier : Tier) (e : Option Episode) : PointExposure :=
  match tier with
  | .fast => { x with fastEp := e }
  | .window => { x with windowEp := e }
  | .session => { x with sessionEp := e }

/-- The peak an end record gives: the start level where the peak was never set (R53). -/
def Episode.finalPeak (e : Episode) : Nat := e.peak.getD e.start

/-- The body of an EXCEEDANCE_END record; the duration is in whole seconds (R53). -/
def endBody (k : PointId) (tier : Tier) (e : Episode) : RecordBody := .exceedanceEnd k tier e.finalPeak (e.frames / 10)

/-- The end record of a tier, none where it is CLEAR. -/
def endBodies (k : PointId) (x : PointExposure) (tier : Tier) : List RecordBody :=
  match x.episode tier with
  | none => []
  | some e => [endBody k tier e]

/-- A record without a notice. -/
def plain (b : RecordBody) : Report := ⟨b, none⟩

/-- The report of an episode's start (R52). -/
def startReport (k : PointId) (tier : Tier) (start limit : Nat) : Report :=
  ⟨.exceedanceStart k tier start limit, some (.exceed k tier)⟩

/-- The higher of a peak, where one is set, and a level. -/
def raise (peak : Option Nat) (l : Nat) : Option Nat := some (match peak with | none => l | some q => max q l)

/-- A boundary taken while an episode lasts adds 1 to its frame count, saturating (R52). -/
def Episode.tick (e : Episode) : Episode := { e with frames := min 4294967295 (e.frames + 1) }

/-- The frame counts of a point's episodes at a boundary. -/
def PointExposure.tick (x : PointExposure) : PointExposure :=
  { x with
    fastEp := x.fastEp.map Episode.tick
    windowEp := x.windowEp.map Episode.tick
    sessionEp := x.sessionEp.map Episode.tick }

/-! ### Frame work (R30, R32, R39, R40) -/

/-- What a point takes from the map at a boundary (R30, R39). -/
structure FramePowers where
  a : Nat
  c : Nat
  overload : Nat
  gap : Nat
  blind : Bool
  deriving DecidableEq, Repr

/-- The mean of a slot that holds frames (R12, R24); `none` where it holds none. -/
def FrameSlot.means (q : FrameSlot) : Option FramePowers :=
  if q.count = 0 then none else some ⟨mean q.aSum q.count, mean q.cSum q.count, q.overload, q.gap, false⟩

/-- The slot of a point's source channel, empty where it has none. -/
def State.sourceSlot (s : State) (k : PointId) : FrameSlot :=
  let c := match (s.pm.points.get k).source with
    | .primary => s.settings.holder (.primary k)
    | .standby => s.settings.holder (.standby k)
    | _ => none
  match c with
  | none => .empty
  | some c => (s.sp.get c).slot

/-- The powers an enabled point hands to the integrator, by its source state (R30). -/
def State.framePowers (s : State) (k : PointId) : FramePowers :=
  let v := s.pm.points.get k
  match v.source with
  | .blind => let q := p (s.settings.points.get k).substitute; ⟨q, q, 0, 0, true⟩
  | _ => (s.sourceSlot k).means.getD ⟨v.heldA, v.heldC, 0, 0, false⟩

/-- Steps 1 to 5 of R39: the sums and counts of the point take the frame. -/
def PointExposure.account (x : PointExposure) (f : FramePowers) (sessionOpen : Bool) : PointExposure :=
  { x with
    secondSum := x.secondSum + f.a
    secondBlind := x.secondBlind + (if f.blind then 1 else 0)
    bin := x.bin + f.a
    eS := if sessionOpen then x.eS + f.a else x.eS
    intervalA := x.intervalA + f.a
    intervalC := x.intervalC + f.c
    intervalBlind := min 65535 (x.intervalBlind + (if f.blind then 1 else 0))
    intervalOverload := min 65535 (x.intervalOverload + f.overload)
    intervalGap := min 65535 (x.intervalGap + f.gap) }

/-- The bucket update (R43): B becomes min(C_F, B + P_F) − e, and not less than −C_F. A FULL bucket is not updated. -/
def Bucket.update (b : Bucket) (pF cF e : Nat) : Bucket :=
  match b with
  | .full => .full
  | .amount b => .amount (max (-(cF : Int)) (min (cF : Int) (b + pF) - e))

/-- The fast-tier test (R45): the point and its reports. -/
def fastTest (k : PointId) (lf cF e : Nat) (x : PointExposure) : PointExposure × List Report :=
  match x.bucket with
  | .full => (x, [])
  | .amount b =>
    match x.fastEp with
    | none => if b < 0 then ({ x with fastEp := some ⟨lv e, none, 0⟩ }, [startReport k .fast (lv e) lf]) else (x, [])
    | some ep => if ((cF / 8 : Nat) : Int) ≤ b then ({ x with fastEp := none }, [plain (endBody k .fast ep)]) else (x, [])

/-- Steps 6 and 7 of R39 for the fast tier, while LF is present (R43, R45). -/
def fastTier (k : PointId) (lf : Option Nat) (depth e : Nat) (x : PointExposure) : PointExposure × List Report :=
  match lf with
  | none => (x, [])
  | some l => fastTest k l (fullBucket l depth) e { x with bucket := x.bucket.update (p l) (fullBucket l depth) e }

/-- The session-tier test (R50). -/
def sessionTier (k : PointId) (e : Nat) (x : PointExposure) : PointExposure × List Report :=
  match x.sessionLimit, x.sessionEp with
  | some q, none =>
    if q.total < x.eS then ({ x with sessionEp := some ⟨lv e, none, 0⟩ }, [startReport k .session (lv e) q.ls]) else (x, [])
  | _, _ => (x, [])

/-- The frame of one enabled point (R39): the point after it, and its reports, the fast tier's before the session tier's
(R54). -/
def pointFrame (k : PointId) (lf : Option Nat) (depth : Nat) (f : FramePowers) (sessionOpen : Bool) (x : PointExposure) :
    PointExposure × List Report :=
  let a := fastTier k lf depth f.a (x.tick.account f sessionOpen)
  let b := sessionTier k f.a a.1
  (b.1, a.2 ++ b.2)

/-- Point `k` takes its frame at a boundary; the held power becomes the power it used (R30, R39). A disabled point takes
nothing. -/
def takePointFrame (k : PointId) (s : State) : State :=
  if !(s.settings.points.get k).enabled then s
  else
    let f := s.framePowers k
    let r := pointFrame k (s.limitsOf k).lf s.settings.timing.depth f s.sessionIsOpen (s.ei.points.get k)
    reportAll r.2 ((s.setView k { s.pm.points.get k with heldA := f.a, heldC := f.c }).setExposure k r.1)

/-- The A power of a stage reference at a boundary, `none` for the mark "blind" (R32). -/
def State.refPower (s : State) (t : StageId) : Option Nat :=
  let v := s.pm.refs.get t
  if !v.seeing then none
  else
    match s.settings.holder (.reference t) with
    | none => some v.held
    | some c => some (((s.sp.get c).slot.means.map (·.a)).getD v.held)

/-- Stage `t` takes its frame at a boundary (R32, R40). -/
def takeStageFrame (t : StageId) (s : State) : State :=
  match s.refPower t with
  | none => s
  | some e =>
    let x := s.ei.stages.get t
    let x := { x with secondSum := x.secondSum + e, seeingCount := x.seeingCount + 1 }
    let s := s.setRef t { s.pm.refs.get t with held := e }
    { s with ei := { s.ei with stages := s.ei.stages.set t x } }

/-- Consumption empties the slot of every bound channel (R24). -/
def emptySlots (s : State) : State :=
  let sp := s.sp.renew fun c x =>
    if (s.settings.channelMap.get c).binding = .unused then x else { x with slot := FrameSlot.empty }
  { s with sp := sp }

/-- Step 1 of R38: the points from 0 to 7, then the stages from 0 to 3, take their frames, and the slots are consumed. -/
def frameWork (s : State) : State :=
  emptySlots (allStages.foldl (fun s t => takeStageFrame t s) (allPoints.foldl (fun s k => takePointFrame k s) s))

/-! ### The session's side (R48, R49, R51, R84) -/

/-- The integrator opens its side of a session (R48). -/
def openExposure (g : Settings) (fS : Nat) (ls : Bank 4 (Option Nat)) (e : Integrator) : Integrator :=
  { e with
    sessionFrames := fS
    points := e.points.renew fun k x =>
      { x with eS := 0, sessionLimit := (ls.get (g.points.get k).zone).map fun l => ⟨l, p l * fS⟩ } }

/-- The end records of the session tier, in point order (R51, step 1). -/
def sessionEnds (e : Integrator) : List RecordBody := allPoints.flatMap fun k => endBodies k (e.points.get k) .session

/-- The integrator's side closed: tier S CLEAR and absent, the count 0, E_S held (R51, steps 2 to 4). -/
def closeExposure (e : Integrator) : Integrator :=
  { e with
    sessionFrames := 0
    points := e.points.renew fun _ x => { x with sessionLimit := none, sessionEp := none } }

/-- The session flag of every grant record (R135). -/
def GrantUnit.mirror (u : GrantUnit) (v : Bool) : GrantUnit := { u with grants := u.grants.renew fun _ g => { g with session := v } }

/-- The session closed in the integrator, the schedule unit and the grant records, before any record is offered. -/
def clearSession (s : State) : State :=
  { s with ei := closeExposure s.ei, su := { s.su with session := none }, gu := s.gu.mirror false }

/-- The records of a session close, in order (R51, R84): the integrator's ends, then SESSION (CLOSED). -/
def closeBodies (e : Integrator) (q : Session) (slot : SlotId) (why : CloseCause) : List RecordBody :=
  sessionEnds e ++ [.sessionClosed slot q.fS why]

/-- A session closes (R84, R85); the record names the slot given. -/
def closeSession (q : Session) (slot : SlotId) (why : CloseCause) (s : State) : State :=
  reportAll ((closeBodies s.ei q slot why).map plain) (clearSession s)

/-- Step 2 of R38: the session frame count, and the session's end where it reaches 0 (R49, R85). -/
def sessionCount (s : State) : State :=
  match s.su.session with
  | none => s
  | some q =>
    let s := { s with ei := { s.ei with sessionFrames := s.ei.sessionFrames - 1 } }
    if s.ei.sessionFrames = 0 then closeSession q q.slot .ended s else s

/-! ### Second close (R55 to R57) -/

/-- The second of a stage from its sums (R56): seeing only where its count is 10. -/
def StageExposure.second (x : StageExposure) : Second :=
  if x.seeingCount = 10 then .seeing (lv (mean x.secondSum 10)) else .blind

/-- The stage after a second close (R40, R56). -/
def StageExposure.close (x : StageExposure) : StageExposure :=
  match x.second with
  | .blind => ⟨0, 0, x.latest, false⟩
  | .seeing l => ⟨0, 0, l, true⟩

/-- The second power m_k of a point (R55). -/
def PointExposure.power (x : PointExposure) : Nat := mean x.secondSum 10

/-- An enabled point after a second close (R52, R55). -/
def PointExposure.closeSecond (x : PointExposure) : PointExposure :=
  let l := lv x.power
  { x with
    secondSum := 0
    secondBlind := 0
    latest := l
    intervalMax := raise x.intervalMax l
    fastEp := x.fastEp.map fun e => { e with peak := raise e.peak l }
    sessionEp := x.sessionEp.map fun e => { e with peak := raise e.peak l } }

/-- Step 3 of R38. -/
def secondMeans (s : State) : State :=
  { s with ei := { s.ei with
      points := s.ei.points.renew fun k x => if (s.settings.points.get k).enabled then x.closeSecond else x
      stages := s.ei.stages.renew fun _ x => x.close } }

/-- The sum of the newest `n` complete bins (R46, R47). -/
def newestBins (ring : Bank 60 Nat) (n : Nat) : Nat := (ring.cells.toList.reverse.take n).sum

/-! ### Minute close (R46, R47) -/

/-- The ring with the current bin as its newest, the oldest gone (R46). -/
def pushBin (ring : Bank 60 Nat) (b : Nat) : Bank 60 Nat := ⟨⟨⟨ring.cells.toList.drop 1 ++ [b]⟩, by simp⟩⟩

/-- A point's ring advances (R46), enabled or not. -/
def PointExposure.advance (x : PointExposure) : PointExposure := { x with ring := pushBin x.ring x.bin, bin := 0 }

/-- The window Leq over the newest N bins (R47). -/
def windowLeq (ring : Bank 60 Nat) (n : Nat) : Nat := lv (mean (newestBins ring n) (n * 600))

/-- The window-tier test (R47). -/
def windowTest (k : PointId) (w : Window) (x : PointExposure) : PointExposure × List Report :=
  let leq := windowLeq x.ring w.n
  match x.windowEp with
  | none =>
    if w.lw < leq then ({ x with windowEp := some ⟨leq, some leq, 0⟩ }, [startReport k .window leq w.lw]) else (x, [])
  | some e =>
    let e := { e with peak := raise e.peak leq }
    if leq + 100 ≤ w.lw then ({ x with windowEp := none }, [plain (endBody k .window e)])
    else ({ x with windowEp := some e }, [])

/-- The window tier of point `k` at a minute close, where it is enabled and the tier present (R47). -/
def takeWindowTest (k : PointId) (s : State) : State :=
  match (s.settings.points.get k).enabled, (s.limitsOf k).window with
  | true, some w =>
    let r := windowTest k w (s.ei.points.get k)
    reportAll r.2 (s.setExposure k r.1)
  | _, _ => s

/-- Step 4 of R38. -/
def minuteWork (s : State) : State :=
  allPoints.foldl (fun s k => takeWindowTest k s)
    { s with ei := { s.ei with points := s.ei.points.renew fun _ x => x.advance } }

/-! ### Interval close (R59) -/

/-- The summary of a point (R59). -/
def summaryBody (k : PointId) (x : PointExposure) (source : Source) : RecordBody :=
  .intervalSummary k (lv (mean x.intervalA 3000)) (lv (mean x.intervalC 3000)) (x.intervalMax.getD 3000)
    x.intervalBlind x.intervalOverload x.intervalGap source

/-- The interval values emptied (R59). -/
def PointExposure.emptyInterval (x : PointExposure) : PointExposure :=
  { x with intervalA := 0, intervalC := 0, intervalBlind := 0, intervalOverload := 0, intervalGap := 0, intervalMax := none }

/-- Step 5 of R38: the summaries of the enabled points, point by point (R54), then every point's interval values emptied. -/
def intervalWork (s : State) : State :=
  let rs := allPoints.flatMap fun k =>
    if (s.settings.points.get k).enabled then [plain (summaryBody k (s.ei.points.get k) (s.pm.points.get k).source)] else []
  reportAll rs { s with ei := { s.ei with points := s.ei.points.renew fun _ x => x.emptyInterval } }

/-! ### The snapshot (R57) -/

/-- The snapshot: the figures of the second from the state `b` before step 3, the rest from `s` as it stands after steps 1 to
5. -/
def snapshotOf (b s : State) : Snapshot where
  f := 600 - s.ei.phase % 600
  sessionOpen := s.sessionIsOpen
  fS := s.ei.sessionFrames
  points := s.ei.points.renew fun k x =>
    let q := s.settings.points.get k
    let old := b.ei.points.get k
    let n := match (s.limitsOf k).window with | none => 0 | some w => w.n
    { enabled := q.enabled
      zone := q.zone
      power := if q.enabled then some old.power else none
      energy := old.secondSum
      blind := old.secondBlind
      bucket := x.bucket
      nUsed := n
      sPrev := newestBins x.ring (n - 1)
      eCur := x.bin
      eS := x.eS }
  stages := b.ei.stages.renew fun _ x =>
    ⟨x.second, match x.second with | .blind => 0 | .seeing _ => x.secondSum⟩

/-! ### Changes of limits (R42, R44, R71) -/

/-- The bucket after C_F of its point may have changed: `full` is C_F of the limit now in force, `none` where LF is absent
(R44). -/
def Bucket.adjust (b : Bucket) (full : Option Nat) : Bucket :=
  match b, full with
  | _, none => .full
  | .full, some c => .amount c
  | .amount b, some c => .amount (clampInt (-c) c b)

/-- The tiers that a change of a point's limits makes absent (R42). -/
def absentTiers (new : ZoneLimits) : List Tier :=
  (if new.lf.isNone then [.fast] else []) ++ (if new.window.isNone then [.window] else [])

/-- A point with the episodes of some tiers ended. -/
def PointExposure.clearTiers (x : PointExposure) (ts : List Tier) : PointExposure := ts.foldl (fun x t => x.setEpisode t none) x

/-- The end records of some tiers of a point, in the order of the list. -/
def endsOf (k : PointId) (x : PointExposure) (ts : List Tier) : List RecordBody := ts.flatMap fun t => endBodies k x t

/-- Every bucket adjusted to the limits in force and the bucket depth of a state (R44). -/
def adjustBuckets (s : State) : State :=
  { s with ei := { s.ei with points := s.ei.points.renew fun k x =>
      { x with bucket := x.bucket.adjust ((s.limitsOf k).lf.map fun l => fullBucket l s.settings.timing.depth) } } }

end Sys2Proof.Machine
end

