-- ==== Sys2Proof/Machine/Schedule.lean ====
section
/-!
DEFINITION. The schedule unit (04_limit_schedule_clock_and_curfew.md): the clock, the limits in force, adoption, the curfew
information, sessions and their requests; and POINT_WRITE (R28, R41), which reaches the map and the integrator together.
-/

namespace Sys2Proof.Machine

/-! ### The clock (R63) -/

/-- The minute of day (R63). -/
def Time.minute (c : Time) : Nat := c.secs / 60

/-- One second later (R63). -/
def Time.advance (c : Time) : Time :=
  if 86399 ≤ c.secs then { c with secs := 0, day := (c.day + 1) % 65536 } else { c with secs := c.secs + 1 }

/-! ### Limits in force (R68, R70 to R72) -/

/-- The period in force at minute `t` with its index: the last that starts at or before `t`, else the last of the list
(R68). -/
def periodInForce (ps : List Period) (t : Nat) : Option (Period × Nat) :=
  (ps.zipIdx.filter fun x => x.1.start ≤ t).getLast?.or ps.zipIdx.getLast?

/-- The limits of the fallback record (R69). -/
def fallbackLimits (g : Settings) : Limits := ⟨none, g.fallback, none⟩

/-- The limits in force as a recomputation finds them (R70). An active schedule is never empty (R67); an empty one would leave
the fallback record in force. -/
def State.newLimits (s : State) : Limits :=
  if s.su.clock.valid then
    match periodInForce s.settings.schedule s.su.clock.minute with
    | some (q, i) => ⟨some i, q.zones, if q.kind = .stop then some q.start else none⟩
    | none => fallbackLimits s.settings
  else fallbackLimits s.settings

/-- The report of a STOP start: STOP in force where it was not (R72). -/
def stopStart (old new : Option Nat) : List Report :=
  match old, new with
  | none, some m => [⟨.curfewStop m, some (.curfewStop m)⟩]
  | _, _ => []

/-- A point of the integrator as its zone's limits change from `old` to `new` (R44, R71). -/
def PointExposure.relimit (x : PointExposure) (old new : ZoneLimits) (depth : Nat) : PointExposure :=
  if old = new then x
  else
    let x := if old.lf = new.lf then x else { x with bucket := x.bucket.adjust (new.lf.map fun l => fullBucket l depth) }
    x.clearTiers (absentTiers new)

/-- The end records of the tiers that a change of limits makes absent at point `k` (R42). -/
def relimitEnds (k : PointId) (x : PointExposure) (old new : ZoneLimits) : List RecordBody :=
  if old = new then [] else endsOf k x (absentTiers new)

/-- A recomputation of the limits in force (R70): the changes are handed to the integrator (R71) and a STOP start is reported
(R72). Where episodes end and STOP starts at once, either unit's records may come first (assumption 6). -/
def recompute (s : State) : State :=
  let old := s.su.limits
  let new := s.newLimits
  let zone := fun k : PointId => (s.settings.points.get k).zone
  let ends := allPoints.flatMap fun k =>
    relimitEnds k (s.ei.points.get k) (old.zones.get (zone k)) (new.zones.get (zone k))
  let points := s.ei.points.renew fun k x =>
    x.relimit (old.zones.get (zone k)) (new.zones.get (zone k)) s.settings.timing.depth
  reportEither (ends.map plain) (stopStart old.stop new.stop)
    { s with su := { s.su with limits := new }, ei := { s.ei with points := points } }

/-! ### The curfew information (R73) -/

/-- The nearer of two STOP starts. -/
def NextStop.nearer (a : Option NextStop) (b : NextStop) : Option NextStop :=
  match a with
  | none => some b
  | some a => if b.t < a.t then some b else some a

/-- The STOP periods' starts that lie from 1 to 3600 seconds ahead of second `u` (R73). -/
def stopsAhead (ps : List Period) (u : Nat) : List NextStop :=
  ps.filterMap fun q =>
    let t := (q.start * 60 + 86400 - u) % 86400
    if q.kind = .stop ∧ 1 ≤ t ∧ t ≤ 3600 then some ⟨t, q.ramp, q.start⟩ else none

/-- The curfew information as the schedule unit answers (R73). -/
def State.curfewInfo (s : State) : CurfewInfo :=
  let stop := s.su.limits.stop.isSome
  if !s.su.clock.valid || stop then ⟨stop && s.su.clock.valid, none⟩
  else ⟨false, (stopsAhead s.settings.schedule s.su.clock.secs).foldl NextStop.nearer none⟩

/-! ### Adoption (R78, R79) -/

/-- Start minutes strictly ascend in list order (R78, check 2). -/
def ascending : List Period → Bool
  | a :: b :: rest => a.start < b.start && ascending (b :: rest)
  | _ => true

/-- A limit that is absent or a level code in range. -/
def presentInRange (l : Option Nat) : Bool :=
  match l with
  | none => true
  | some l => limitRange l

/-- The levels of a zone entry in range (R78, check 3). -/
def ZoneLimits.levelsInRange (z : ZoneLimits) : Bool := presentInRange z.lf && presentInRange (z.window.map (·.lw))

/-- The window length of a zone entry in range (R78, check 4). -/
def ZoneLimits.lengthInRange (z : ZoneLimits) : Bool :=
  match z.window with
  | none => true
  | some w => 1 ≤ w.n && w.n ≤ 60

/-- All four zones of a bank pass a test. -/
def everyZone {α : Type} (b : Bank 4 α) (f : α → Bool) : Bool := f (b.get 0) && f (b.get 1) && f (b.get 2) && f (b.get 3)

/-- The check of a pending schedule: the reason of the first check that fails, none where it passes (R78). -/
def checkSchedule (ps : List Period) (a : Allowance) : Option SchedReason :=
  if ps = [] then some .count
  else if !ascending ps then some .order
  else if !((ps.all fun q => q.start ≤ 1439 && everyZone q.zones ZoneLimits.levelsInRange) && everyZone a.ls presentInRange) then
    some .range
  else if !(ps.all fun q => everyZone q.zones ZoneLimits.lengthInRange) then some .window
  else if !(ps.all fun q => q.ramp ≤ 60) then some .ramp
  else if 1439 < a.latestEnd then some .sessionEnd
  else none

/-- The report of an adoption attempt (R79). -/
def scheduleReport (reason : Option SchedReason) (count : Nat) : Report := ⟨.schedule reason count, some (.schedule reason)⟩

/-- The pending schedule emptied: no period, the mark clear, the pending table a copy of the active one (R74, R79). -/
def ScheduleUnit.dropPending (u : ScheduleUnit) (active : Allowance) : ScheduleUnit :=
  { u with pendingList := [], commit := false, pendingAllowance := active }

/-- The adoption attempt under a commit mark (R78, R79). -/
def adopt (s : State) : State :=
  let ps := s.su.pendingList
  match checkSchedule ps s.su.pendingAllowance with
  | none =>
    report (scheduleReport none ps.length)
      { s with
        settings := { s.settings with schedule := ps, allowance := s.su.pendingAllowance }
        su := s.su.dropPending s.su.pendingAllowance }
  | some why =>
    report (scheduleReport (some why) ps.length) { s with su := s.su.dropPending s.settings.allowance }

/-- A clock minute boundary (R63): any adoption due, then the recomputation. -/
def minuteBoundary (s : State) : State := recompute (if s.su.commit then adopt s else s)

/-- CLOCK_ADVANCE (R63): the tick; an advance to a multiple of 60 is a clock minute boundary. -/
def clockAdvance (s : State) : State :=
  let s := { s with su := { s.su with clock := s.su.clock.advance } }
  if s.su.clock.secs % 60 = 0 then minuteBoundary s else s

/-- CLOCK_MINUTE_BOUNDARY (R63): the advance that is a clock minute boundary, where the next advance is one
(assumption 1). -/
def clockMinuteBoundary (s : State) : State := if s.su.clock.advance.secs % 60 = 0 then clockAdvance s else s

def execClockAdvance (s : State) : Host.Outcome State Fault Refusal := whenPowered s clockAdvance
def execClockMinuteBoundary (s : State) : Host.Outcome State Fault Refusal := whenPowered s clockMinuteBoundary

/-! ### The schedule's requests -/

/-- TIME_SET (R64). -/
def ownerTimeSet : Owner := fun _ params s =>
  match readTime params with
  | none => turnDown .param s
  | some c =>
    let old := s.su.clock
    ok [] (recompute (report ⟨.clock old c, some (.clock c.valid)⟩ { s with su := { s.su with clock := c } }))

/-- FALLBACK_WRITE (R69). -/
def ownerFallbackWrite : Owner := fun _ params s =>
  match readFallback params with
  | none => turnDown .param s
  | some z =>
    if s.isSaving then turnDown .busy s
    else
      let s := s.withSettings { s.settings with fallback := z }
      ok [] (if s.su.clock.valid then s else recompute s)

/-- The pending list with the entry at an index replaced, or appended at its end. -/
def writePeriod (ps : List Period) (i : Nat) (q : Period) : List Period := if i < ps.length then ps.set i q else ps ++ [q]

/-- SCHED_WRITE (R75): the parameters are judged before the commit mark (R74). -/
def ownerSchedWrite : Owner := fun _ params s =>
  match readPeriod params with
  | none => turnDown .param s
  | some (i, q) =>
    if s.su.pendingList.length < i ∨ 16 ≤ i then turnDown .param s
    else if s.su.commit then turnDown (.state .commitPending) s
    else
      let ps := writePeriod s.su.pendingList i q
      ok (u8 ps.length) { s with su := { s.su with pendingList := ps } }

/-- SCHED_CLEAR (R76). -/
def ownerSchedClear : Owner := fun _ _ s =>
  if s.su.commit then turnDown (.state .commitPending) s else ok [] { s with su := { s.su with pendingList := [] } }

/-- SESSION_LIMIT_WRITE (R76). -/
def ownerSessionLimitWrite : Owner := fun _ params s =>
  match readAllowance params with
  | none => turnDown .param s
  | some a =>
    if s.su.commit then turnDown (.state .commitPending) s else ok [] { s with su := { s.su with pendingAllowance := a } }

/-- SCHED_COMMIT (R77). -/
def ownerSchedCommit : Owner := fun _ _ s =>
  if s.su.commit then turnDown (.state .commitPending) s else ok [] { s with su := { s.su with commit := true } }

def execTimeSet (params : List Byte) (s : State) : Host.Outcome State Fault Refusal :=
  whenPowered s (serve .timeSet ownerTimeSet params)
def execFallbackWrite (params : List Byte) (s : State) : Host.Outcome State Fault Refusal :=
  whenPowered s (serve .fallbackWrite ownerFallbackWrite params)
def execSchedWrite (params : List Byte) (s : State) : Host.Outcome State Fault Refusal :=
  whenPowered s (serve .schedWrite ownerSchedWrite params)
def execSchedClear (params : List Byte) (s : State) : Host.Outcome State Fault Refusal :=
  whenPowered s (serve .schedClear ownerSchedClear params)
def execSessionLimitWrite (params : List Byte) (s : State) : Host.Outcome State Fault Refusal :=
  whenPowered s (serve .sessionLimitWrite ownerSessionLimitWrite params)
def execSchedCommit (params : List Byte) (s : State) : Host.Outcome State Fault Refusal :=
  whenPowered s (serve .schedCommit ownerSchedCommit params)

/-! ### Sessions (R82 to R84) -/

/-- The distance from minute `m` of day to an end minute (R82). -/
def endDistance (m x : Nat) : Nat := (x + 1440 - m) % 1440

/-- An enabled stage has an UNSET coupling entry to an enabled point (R82). -/
def Settings.unsetCoupling (g : Settings) : Bool :=
  allStages.any fun t => (g.stages.get t).enabled &&
    allPoints.any fun k => (g.points.get k).enabled && (g.couplingOf t k).isNone

/-- F_S of a session of distance `d` opened at second `u` of the day (R83). -/
def sessionLength (d u : Nat) : Nat := max 1 (d * 600 - u % 60 * 10)

/-- The effect of an accepted SESSION_OPEN (R83, R48, R135). -/
def openSession (slot : SlotId) (endMinute fS : Nat) (s : State) : State :=
  let ls := s.settings.allowance.ls
  report (plain (.sessionOpened slot fS))
    { s with
      su := { s.su with session := some ⟨slot, endMinute, fS, ls⟩ }
      ei := openExposure s.settings fS ls s.ei
      gu := s.gu.mirror true }

/-- SESSION_OPEN (R82, R83): answered with F_S and the end minute used. -/
def ownerSessionOpen : Owner := fun slot params s =>
  match readEndMinute params with
  | none => turnDown .param s
  | some req =>
    let m := s.su.clock.minute
    let latest := s.settings.allowance.latestEnd
    let used := req.getD latest
    let d := endDistance m used
    if s.sessionIsOpen then turnDown (.state .sessionOpen) s
    else if !s.su.clock.valid then turnDown (.state .clock) s
    else if s.cs.running then turnDown (.state .survey) s
    else if s.su.limits.stop.isSome then turnDown (.state .stop) s
    else if s.settings.unsetCoupling then turnDown (.state .coupling) s
    else if d = 0 ∨ endDistance m latest = 0 ∨ endDistance m latest < d then turnDown (.state .endTime) s
    else
      let fS := sessionLength d s.su.clock.secs
      ok (u32 fS ++ u16 used) (openSession slot used fS s)

/-- SESSION_CLOSE (R84). -/
def ownerSessionClose : Owner := fun slot _ s =>
  match s.su.session with
  | none => turnDown (.state .noSession) s
  | some q => ok [] (closeSession q slot .request s)

def execSessionOpen (params : List Byte) (s : State) : Host.Outcome State Fault Refusal :=
  whenPowered s (serve .sessionOpen ownerSessionOpen params)
def execSessionClose (params : List Byte) (s : State) : Host.Outcome State Fault Refusal :=
  whenPowered s (serve .sessionClose ownerSessionClose params)

/-! ### POINT_WRITE (R28, R41) -/

/-- Every tier, in the order F, W, S. -/
def allTiers : List Tier := [.fast, .window, .session]

/-- The sums that a disabling empties and an enabling begins afresh (R41, R55). -/
def PointExposure.emptySums (x : PointExposure) : PointExposure := { x.emptyInterval with secondSum := 0, secondBlind := 0 }

/-- The integrator's point at a POINT_WRITE: a move to other limits, then a change of the enabled flag (R41, R44). -/
def PointExposure.rewrite (x : PointExposure) (was now : Bool) (old new : ZoneLimits) (depth : Nat) : PointExposure :=
  let x := x.relimit old new depth
  if was = now then x else if now then x.emptySums else x.emptySums.clearTiers allTiers

/-- The end records of a POINT_WRITE: every EXCEEDED tier at a disabling, else the tiers that became absent (R41, R42). Where several
tiers end, R41 and R42 give them no order: F before W before S is the model's choice (assumption 15). -/
def rewriteEnds (k : PointId) (x : PointExposure) (was now : Bool) (old new : ZoneLimits) : List RecordBody :=
  if was ∧ ¬ now then endsOf k x allTiers else relimitEnds k x old new

/-- An accepted POINT_WRITE. Where it disables the point, the integrator's end records and the map's SENSOR record stand in
either order (assumption 5). -/
def writePoint (k : PointId) (q : PointSettings) (s : State) : State :=
  let old := s.settings.points.get k
  let x := s.ei.points.get k
  let zones := s.su.limits.zones
  let source := (s.pm.points.get k).source
  let s1 := { s with settings := { s.settings with points := s.settings.points.set k q } }
  let s2 := if old.enabled = q.enabled then s1 else setSource k s1
  let s3 := s2.setExposure k
    (x.rewrite old.enabled q.enabled (zones.get old.zone) (zones.get q.zone) s.settings.timing.depth)
  reportEither
    ((rewriteEnds k x old.enabled q.enabled (zones.get old.zone) (zones.get q.zone)).map plain)
    (sourceReports k source (s3.pm.points.get k).source) s3

/-- POINT_WRITE (R28). -/
def ownerPointWrite : Owner := fun _ params s =>
  match readPoint params with
  | none => turnDown .param s
  | some (k, q) =>
    let old := s.settings.points.get k
    if s.sessionIsOpen ∧ (q.enabled ≠ old.enabled ∨ q.zone ≠ old.zone ∨ q.standbyOffset ≠ old.standbyOffset) then
      turnDown (.state .sessionOpen) s
    else if s.isSaving then turnDown .busy s
    else ok [] (writePoint k q s)

def execPointWrite (params : List Byte) (s : State) : Host.Outcome State Fault Refusal :=
  whenPowered s (serve .pointWrite ownerPointWrite params)

end Sys2Proof.Machine
end

