-- ==== Sys2Proof/Machine/Allocation.lean ====
section
/-!
DEFINITION. The allocation engine (06_the_allocation_pass.md): the start of a pass with the inputs it takes, the computation of its
result from those inputs alone, and SHARE_WRITE. The result is taken by the grant unit, in Grants.lean.
-/

namespace Sys2Proof.Machine

/-! ### Counting the session (R112) and the curfew line (R128) -/

/-- The pass counts the session as open (R112). -/
def PassInputs.isOpen (i : PassInputs) : Bool := i.snap.sessionOpen && i.session.isSome

/-- The next STOP start while the approach is open: within its ramp, the ramp at least 1 minute (R128, R129). -/
def CurfewInfo.approaching (c : CurfewInfo) : Option NextStop :=
  c.next.filter fun n => 1 ≤ n.ramp && n.t ≤ n.ramp * 60

/-- The curfew approach line of a stage (R128). -/
def curfewLine (g : StageSettings) (n : NextStop) : Nat := g.floor + (g.top - g.floor) * n.t / (n.ramp * 60)

/-! ### Tier allowances (R118 to R121) -/

/-- A remainder spread over the frames left, 0 where nothing remains (R119, R120). -/
def spread (r : Int) (frames : Nat) : Nat := if 0 < r then (r / frames).toNat else 0

/-- A_F (R118). -/
def fastAllowance (lf depth horizon : Nat) (b : Bucket) : Nat :=
  let full : Int := fullBucket lf depth
  let b := match b with
    | .full => full
    | .amount b => clampInt (-full) full b
  ((p lf : Int) + b / horizon).toNat

/-- A_W (R119). -/
def windowAllowance (lw n sPrev eCur f : Nat) : Nat := spread ((p lw * n * 600 : Nat) - (sPrev : Int) - eCur) f

/-- A_S (R120). -/
def sessionAllowance (ls total eS fS : Nat) : Nat := spread ((p ls * total : Nat) - (eS : Int)) fS

/-- The allowances of the tiers present at point `k` for the pass, in the order F, W, S (R118 to R120). -/
def PassInputs.allowances (i : PassInputs) (k : PointId) : List (Nat × Tier) :=
  let q := i.snap.points.get k
  let z := i.zones.get q.zone
  (match z.lf with
    | none => []
    | some lf => [(fastAllowance lf i.depth i.horizon q.bucket, .fast)]) ++
  (match z.window with
    | none => []
    | some w => if q.nUsed = 0 then [] else [(windowAllowance w.lw q.nUsed q.sPrev q.eCur i.snap.f, .window)]) ++
  (match i.session with
    | none => []
    | some x =>
      match x.ls.get q.zone with
      | none => []
      | some ls => [(sessionAllowance ls x.fS q.eS i.snap.fS, .session)])

/-- The least of some keyed values, the first of equal ones (R121, R127). -/
def least {κ α : Type} (lt : κ → κ → Bool) : List (κ × α) → Option (κ × α)
  | [] => none
  | x :: xs =>
    match least lt xs with
    | none => some x
    | some y => if lt y.1 x.1 then some y else some x

/-- A_k with its governing tier, for an enabled point at which a tier is present (R121). -/
def PassInputs.pointAllowance (i : PassInputs) (k : PointId) : Option (Nat × Tier) :=
  if (i.snap.points.get k).enabled then least (fun a b => a < b) (i.allowances k) else none

/-! ### Attribution (R122, R123) -/

/-- L_s for attribution (R122). -/
def PassInputs.attributed (i : PassInputs) (t : StageId) : Nat :=
  match (i.snap.stages.get t).second with
  | .seeing l => l
  | .blind => i.ceilings.get t

/-- c_sk of an enabled stage (R122); a pair without a code, which no pass of an open session meets (R93), contributes nothing
(assumption 16). -/
def PassInputs.contribution (i : PassInputs) (t : StageId) (k : PointId) : Nat :=
  if (i.stages.get t).enabled then
    match (i.coupling.get t).get k with
    | none => 0
    | some c => p (i.attributed t + c)
  else 0

/-- b_k (R123). -/
def PassInputs.background (i : PassInputs) (k : PointId) : Nat :=
  (i.snap.points.get k).power.getD 0 - (allStages.map fun t => i.contribution t k).sum

/-- The working figures of a constrained point. -/
structure Constrained where
  point : PointId
  allowance : Nat
  tier : Tier
  background : Nat
  available : Nat
  deriving DecidableEq, Repr

/-- The constrained points of a pass, in point order (R121, R123). -/
def PassInputs.constrained (i : PassInputs) : List Constrained :=
  allPoints.filterMap fun k =>
    (i.pointAllowance k).map fun a => ⟨k, a.1, a.2, i.background k, a.1 - i.background k⟩

/-! ### Activity and shares (R124, R125) -/

/-- The activity of an enabled stage after a pass takes its second (R124). -/
def Activity.update (a : Activity) (x : Second) (threshold : Nat) : Activity :=
  match x with
  | .blind => ⟨false, 0⟩
  | .seeing l =>
    if threshold ≤ l then ⟨false, 0⟩
    else if a.idle then ⟨true, 10⟩
    else ⟨10 ≤ a.quiet + 1, a.quiet + 1⟩

/-- The stage is enabled and IDLE. -/
def PassInputs.isIdle (i : PassInputs) (t : StageId) : Bool :=
  match i.activity.get t with
  | none => false
  | some a => (i.stages.get t).enabled && a.idle

/-- The stage is enabled and PLAYING. -/
def PassInputs.isPlaying (i : PassInputs) (t : StageId) : Bool := (i.stages.get t).enabled && !i.isIdle t

/-- The sum of the shares of the stages that pass a test. -/
def PassInputs.shareSum (i : PassInputs) (f : StageId → Bool) : Nat :=
  ((allStages.filter f).map fun t => (i.stages.get t).share).sum

/-- σ'_s of an enabled stage in a pass that counts the session as open (R125). -/
def PassInputs.effectiveShare (i : PassInputs) (t : StageId) : Nat :=
  let share := (i.stages.get t).share
  let playing := i.shareSum i.isPlaying
  if i.isPlaying t ∧ 0 < playing then share + share * i.shareSum i.isIdle / playing else share

/-! ### Targets (R126 to R131) -/

/-- L_sk (R126). -/
def allowedLevel (available share : Nat) (coupling : Int) : Int :=
  let a := available * share / 256
  if a = 0 then 0 else lv a - coupling

/-- The allowed minimum of a stage with its governing point, none where no point is constrained (R127, step 1). -/
def PassInputs.allowedMinimum (i : PassInputs) (t : StageId) : Option (Int × Constrained) :=
  least (fun a b => a < b) (i.constrained.filterMap fun c =>
    ((i.coupling.get t).get c.point).map fun x => (allowedLevel c.available (i.effectiveShare t) x, c))

/-- A value below `hi` and above `lo` clamped between them, as a level code (R127, step 3). -/
def clampTarget (g : StageSettings) (l : Int) : Nat := (clampInt g.floor g.top l).toNat

/-- The constraint named for a target of kind ALLOCATED (R131, assumption 17). -/
def allocatedConstraint (g : StageSettings) (target : Nat) (c : Option Constrained) : Constraint :=
  if g.top ≤ target then ⟨.top, c.map (·.point), none⟩
  else if target ≤ g.floor then ⟨.floor, c.map (·.point), c.map (·.tier)⟩
  else ⟨.none, c.map (·.point), c.map (·.tier)⟩

/-- The allocated target of an enabled stage, its kind and the constraint (R127, R128, R131). -/
def PassInputs.allocate (i : PassInputs) (t : StageId) : Nat × TargetKind × Constraint :=
  let g := i.stages.get t
  let m := i.allowedMinimum t
  let low : Int := (m.map (·.1)).getD g.top
  let line := i.curfew.approaching.map (curfewLine g)
  match line with
  | some l =>
    if (l : Int) < low then (clampTarget g l, .approach, ⟨.curfew, none, none⟩)
    else (clampTarget g low, .allocated, allocatedConstraint g (clampTarget g low) (m.map (·.2)))
  | none => (clampTarget g low, .allocated, allocatedConstraint g (clampTarget g low) (m.map (·.2)))

/-- The survey level, where the survey target names the stage. -/
def PassInputs.surveyLevel (i : PassInputs) (t : StageId) : Option Nat :=
  match i.target with
  | some (t', l) => if t' = t then some l else none
  | none => none

/-- The target of an enabled stage by the first case that holds (R130). -/
def PassInputs.select (i : PassInputs) (t : StageId) : Nat × TargetKind × Constraint :=
  let g := i.stages.get t
  if i.curfew.stop then (g.floor, .stop, ⟨.stop, none, none⟩)
  else if i.isOpen then i.allocate t
  else
    match i.surveyLevel t with
    | some l => (clampTo g.floor g.top l, .survey, ⟨.survey, none, none⟩)
    | none => (g.floor, .closed, ⟨.closed, none, none⟩)

/-- The entry of an enabled stage (R113, R132). -/
def PassInputs.entry (i : PassInputs) (t : StageId) : Option PassEntry :=
  if (i.stages.get t).enabled then
    let x := i.select t
    some {
      target := x.1
      kind := x.2.1
      second := (i.snap.stages.get t).second
      idle := i.isIdle t
      share := if i.isOpen then i.effectiveShare t else (i.stages.get t).share
      named := x.2.2 }
  else none

/-- What an open pass shows of a point, none for a point disabled in the snapshot (R132). -/
def PassInputs.standing (i : PassInputs) (k : PointId) : Option PointStanding :=
  if (i.snap.points.get k).enabled then
    match i.constrained.find? fun c => c.point = k with
    | none => some .unconstrained
    | some c => some (.constrained ⟨lv c.allowance, c.tier, lv c.background, lv c.available⟩)
  else none

/-- The result of a pass, computed from the inputs it took (R113), without the entries that the grant unit ignores
(R136). -/
def PassInputs.outcome (i : PassInputs) : PassOutcome where
  entries := Bank.tabulate fun t => if i.dropped.get t then none else i.entry t
  approach := i.approach
  curfew := i.curfew
  points := if i.isOpen then some (Bank.tabulate i.standing) else none

/-! ### The start of a pass (R110, R124, R129) -/

/-- The activity of every stage after a pass takes a snapshot (R124). -/
def nextActivity (g : Settings) (snap : Snapshot) (old : Bank 4 (Option Activity)) : Bank 4 (Option Activity) :=
  old.renew fun t a =>
    let st := g.stages.get t
    if st.enabled then some ((a.getD ⟨false, 0⟩).update (snap.stages.get t).second st.idle) else none

/-- The report of an approach newly open, or open for another STOP minute (R129). -/
def approachReports (old new : Option Nat) : List Report :=
  match new with
  | none => []
  | some m => if old = some m then [] else [⟨.curfewApproach m, some (.curfewApproach m)⟩]

/-- The engine takes the snapshot and every other input, each as it stands, and starts its pass (R110). -/
def startPass (snap : Snapshot) (s : State) : State :=
  let info := s.curfewInfo
  let approach := info.approaching.map (·.minute)
  let activity := nextActivity s.settings snap s.ae.activity
  let inputs : PassInputs := {
    snap := snap
    zones := s.su.limits.zones
    session := s.su.session
    curfew := info
    target := s.cs.target
    coupling := s.settings.coupling
    stages := s.settings.stages
    depth := s.settings.timing.depth
    horizon := s.settings.timing.horizon
    ceilings := s.gu.grants.renew fun _ g => g.c
    activity := activity
    approach := approach.isSome
    dropped := Bank.fill 4 false }
  reportAll (approachReports s.ae.approach approach)
    { s with ae := { s.ae with activity := activity, approach := approach, pass := some inputs, handed := none } }

/-- The engine takes the snapshot that waits for it, where one waits and the pass before it has completed (R110). -/
def startWaiting (s : State) : State :=
  match s.ae.pass, s.ae.handed with
  | none, some snap => startPass snap s
  | _, _ => s

/-- What the part does while no command waits: the start of a pass is an event of the engine that no row of the table commands, so
it falls here where a snapshot waits (R110, R112; assumption 25). -/
def idle (s : State) : State := if s.powered then startWaiting s else s

/-! ### SHARE_WRITE (R117) -/

/-- The sum of some shares over the enabled stages (R114). -/
def enabledShares (stages : Bank 4 StageSettings) (shares : Bank 4 Nat) : Nat :=
  (allStages.map fun t => if (stages.get t).enabled then shares.get t else 0).sum

/-- SHARE_WRITE (R117). -/
def ownerShareWrite : Owner := fun _ params s =>
  match readShares params with
  | none => turnDown .param s
  | some x =>
    if 256 < enabledShares s.settings.stages x then turnDown .param s
    else if s.isSaving then turnDown .busy s
    else
      ok [] (s.withSettings { s.settings with stages := s.settings.stages.renew fun t g => { g with share := x.get t } })

def execShareWrite (params : List Byte) (s : State) : Host.Outcome State Fault Refusal :=
  whenPowered s (serve .shareWrite ownerShareWrite params)

end Sys2Proof.Machine
end

