-- ==== Sys2Proof/Machine/Grants.lean ====
section
/-!
DEFINITION. The grant unit (07_stage_grants_and_enforcement.md): the ceiling and its tests, the taking of a pass result, queries,
acknowledgements, the two timers, the forced hold, and STAGE_WRITE (R115), which reaches the engine, the survey and the grant
record together.
-/

namespace Sys2Proof.Machine

/-! ### Enforcement (R143, R149, R153) -/

/-- The report of an ENFORCEMENT record of stage `t`, with the ceiling and the last second of the record given (R153). -/
def holdReport (t : StageId) (change : LineChange) (cause : Cause) (g : Grant) : Report :=
  ⟨.enforcement t change cause g.c g.last, some (.hold t change cause)⟩

/-- Entry into ENFORCED: both timers stop (R144 to R149). -/
def Grant.enforce (g : Grant) (cause : Cause) : Grant :=
  { g with compliance := .enforced, cause := some cause, complianceTimer := none, holdTimer := none }

/-- The stage is ENFORCED. -/
def Grant.isEnforced (g : Grant) : Bool := g.compliance = .enforced

/-- The overrun test of a stage's second against the ceiling and the settings (R149): the record after it, and whether it
entered ENFORCED. -/
def Grant.overrunTest (g : Grant) (x : Second) (set : Timing) : Grant × Bool :=
  if x.loud (g.c + set.overrunMargin + 1) then
    if set.overrunCount ≤ g.overrun + 1 then
      if g.isEnforced then ({ g with overrun := 0 }, false) else ({ g.enforce .overrun with overrun := 0 }, true)
    else ({ g with overrun := g.overrun + 1 }, false)
  else ({ g with overrun := 0 }, false)

/-! ### The ceiling (R137 to R139, R146, R147) -/

/-- The kinds reached by slew (R137). -/
def TargetKind.bySlew : TargetKind → Bool
  | .allocated => true
  | .approach => true
  | _ => false

/-- C after a move toward `t` (R137, R138). -/
def moveCeiling (kind : TargetKind) (c t down up : Nat) : Nat :=
  if kind.bySlew then
    if t < c then max t (c - down) else if c < t then min t (c + up) else c
  else t

/-- Step 2 of R136: T and its kind are kept, C moves, each clamped to the floor and top as they stand. -/
def Grant.move (g : Grant) (kind : TargetKind) (target : Nat) (st : StageSettings) (set : Timing) : Grant :=
  { g with
    c := clampTo st.floor st.top (moveCeiling kind g.c target set.downRate set.upRate)
    t := clampTo st.floor st.top target
    kind := kind }

/-- The lowering test (R146, R147) of a record whose ceiling was `was`: the record after it, and whether LOWERED is posted
(R154). -/
def Grant.loweringTest (g : Grant) (was top deadline : Nat) : Grant × Bool :=
  match g.compliance with
  | .tracking =>
    if g.within top then (g, false) else ({ g with compliance := .pending, complianceTimer := some deadline }, true)
  | .pending =>
    if g.within top then ({ g with compliance := .tracking, complianceTimer := none }, false) else (g, g.c < was)
  | .releasing =>
    if g.within top then ({ g with complianceTimer := none }, false)
    else if g.complianceTimer.isNone then ({ g with complianceTimer := some deadline }, true)
    else (g, g.c < was)
  | _ => (g, false)

/-- The posting of LOWERED for a stage, where it is due (R154). -/
def postLowered (t : StageId) (g : Grant) (due : Bool) (s : State) : State := if due then post (.lowered t g.c) s else s

/-! ### Taking a pass result (R136) -/

/-- The record of one stage after its entry is worked through, whether it entered ENFORCED, and whether LOWERED is due. -/
def Grant.takeEntry (g : Grant) (e : PassEntry) (st : StageSettings) (set : Timing) : Grant × Bool × Bool :=
  let a := g.overrunTest e.second set
  let b := a.1.move e.kind e.target st set
  let c := if b.c = g.c then (b, false) else b.loweringTest g.c st.top set.deadline
  ({ c.1 with last := e.second }, a.2, c.2)

/-- One stage of a pass result (R136). An ENFORCEMENT record gives the ceiling and the last second as they stand after the event
(R153, assumption 21). -/
def takeStage (r : PassOutcome) (t : StageId) (s : State) : State :=
  match r.entries.get t with
  | none => s
  | some e =>
    let st := s.settings.stages.get t
    if st.enabled then
      let x := (s.gu.grants.get t).takeEntry e st s.settings.timing
      let s := s.setGrant t x.1
      let s := if x.2.1 then report (holdReport t .asserted .overrun x.1) s else s
      postLowered t x.1 x.2.2 s
    else s

/-- The grant unit takes a result whole (R136), and the engine keeps its figures (R132). -/
def takeResult (r : PassOutcome) (s : State) : State :=
  let s := allStages.foldl (fun s t => takeStage r t s) s
  { s with
    gu := { s.gu with approach := r.approach, curfew := r.curfew }
    ae := { s.ae with figures := some ⟨r.entries, r.points⟩, pass := none } }

/-- PASS_RESULT (R113, R136): the pass in flight completes. A snapshot that still waits is taken first: its pass starts within this
event, on the inputs as they stand (R110, assumption 25). -/
def passResult (s : State) : State :=
  let s := startWaiting s
  match s.ae.pass with
  | none => s
  | some i => takeResult i.outcome s

def execPassResult (s : State) : Host.Outcome State Fault Refusal := whenPowered s passResult

/-! ### Timers (R146 to R148) -/

/-- COMPLIANCE_TIMER_EXPIRY (R146, R147): a running timer expires in PENDING or RELEASING. -/
def complianceTimerExpiry (t : StageId) (s : State) : State :=
  let g := s.gu.grants.get t
  if g.complianceTimer.isSome ∧ (g.compliance = .pending ∨ g.compliance = .releasing) then
    let g := g.enforce .ackTimeout
    report (holdReport t .asserted .ackTimeout g) (s.setGrant t g)
  else s

/-- HOLD_MINIMUM_EXPIRY (R148): TRACKING, or PENDING where the compliance timer runs; the line is released unless forced. -/
def holdMinimumExpiry (t : StageId) (s : State) : State :=
  let g := s.gu.grants.get t
  if g.holdTimer.isSome ∧ g.compliance = .releasing then
    let g := { g with compliance := if g.complianceTimer.isSome then .pending else .tracking, holdTimer := none }
    let s := s.setGrant t g
    if g.forced then s else report (holdReport t .released .holdMinDone g) s
  else s

def execComplianceTimerExpiry (t : StageId) (s : State) : Host.Outcome State Fault Refusal :=
  whenPowered s (complianceTimerExpiry t)
def execHoldMinimumExpiry (t : StageId) (s : State) : Host.Outcome State Fault Refusal := whenPowered s (holdMinimumExpiry t)

/-! ### Queries and acknowledgements (R140 to R145) -/

/-- The numeric value of a target kind (R204). -/
def TargetKind.code : TargetKind → Nat
  | .allocated => 0
  | .approach => 1
  | .survey => 2
  | .stop => 3
  | .closed => 4

/-- The numeric value of a compliance state (R204). -/
def Compliance.code : Compliance → Nat
  | .disabled => 0
  | .tracking => 1
  | .pending => 2
  | .enforced => 3
  | .releasing => 4

/-- The numeric value of a cause (R204, R206: the order of R162). -/
def Cause.code : Cause → Nat
  | .ackTimeout => 0
  | .cannotComply => 1
  | .overrun => 2
  | .powerUp => 3
  | .forced => 4
  | .unforced => 5
  | .holdMinDone => 6
  | .disabled => 7

/-- The seconds to the next STOP start, or none. -/
def CurfewInfo.seconds (c : CurfewInfo) : Option Nat := c.next.map (·.t)

/-- The OK payload of GRANT_QUERY, 20 bytes (R140, R204). -/
def grantPayload (u : GrantUnit) (t : StageId) : List Byte :=
  let g := u.grants.get t
  u16 g.c ++ u16 g.t ++ u8 g.kind.code ++ u8 g.compliance.code ++ optional 1 (g.cause.map fun c => u8 c.code) ++
    optional 2 (g.applied.map u16) ++ flag g.forced ++ flag g.holdLine ++ flag g.session ++ flag u.approach ++
    optional 2 (u.curfew.seconds.map u16) ++ flag u.curfew.stop ++ u8 0

/-- GRANT_QUERY (R140). -/
def ownerGrantQuery : Owner := fun _ params s =>
  match readIndex 4 params with
  | none => turnDown .param s
  | some t => ok (grantPayload s.gu t) s

/-- The judgement of an acknowledgement without the cannot-comply flag, the applied value being set (R144): the record after
it, whether it entered ENFORCED, and whether LOWERED is due. -/
def Grant.judge (g : Grant) (top : Nat) (set : Timing) : Grant × Bool × Bool :=
  let good := g.within top
  match g.compliance with
  | .tracking =>
    if good then (g, false, false)
    else ({ g with compliance := .pending, complianceTimer := some set.deadline }, false, true)
  | .pending =>
    if good then ({ g with compliance := .tracking, complianceTimer := none }, false, false) else (g, false, false)
  | .enforced =>
    if good then ({ g with compliance := .releasing, holdTimer := some set.holdMinimum }, false, false) else (g, false, false)
  | .releasing => if good then ({ g with complianceTimer := none }, false, false) else (g.enforce .ackTimeout, true, false)
  | .disabled => (g, false, false)

/-- The record after an acknowledgement, the cause of an entry into ENFORCED, and whether LOWERED is due (R142, R144, R145). -/
def Grant.acknowledge (g : Grant) (applied : Nat) (cannot : Bool) (top : Nat) (set : Timing) : Grant × Option Cause × Bool :=
  let g := { g with applied := some applied }
  if cannot then (g.enforce .cannotComply, if g.isEnforced then none else some .cannotComply, false)
  else
    let x := g.judge top set
    (x.1, if x.2.1 then some .ackTimeout else none, x.2.2)

/-- GRANT_ACK (R142): answered with the compliance state after the judgement and the ceiling judged against (R204). R142 says STATE for a
DISABLED stage and does not speak of a flag byte above 1 (assumption 8); that such a byte, where it is refused, is answered PARAM before
the stage is looked at is the model's choice (DESIGN CHOICE, assumption 39). -/
def ownerGrantAck : Owner := fun _ params s =>
  match readAck params with
  | none => turnDown .param s
  | some (t, applied, cannot) =>
    let g := s.gu.grants.get t
    if g.compliance = .disabled then turnDown (.state .stageDisabled) s
    else
      let x := g.acknowledge applied cannot (s.settings.stages.get t).top s.settings.timing
      let s := s.setGrant t x.1
      let s := match x.2.1 with
        | none => s
        | some why => report (holdReport t .asserted why x.1) s
      ok (u8 x.1.compliance.code ++ u16 x.1.c) (postLowered t x.1 x.2.2 s)

def execGrantQuery (params : List Byte) (s : State) : Host.Outcome State Fault Refusal :=
  whenPowered s (serve .grantQuery ownerGrantQuery params)
def execGrantAck (params : List Byte) (s : State) : Host.Outcome State Fault Refusal :=
  whenPowered s (serve .grantAck ownerGrantAck params)

/-! ### The forced hold (R152) -/

/-- HOLD_FORCE (R152, R153). -/
def ownerHoldForce : Owner := fun _ params s =>
  match readIndex 4 params with
  | none => turnDown .param s
  | some t =>
    let g := s.gu.grants.get t
    let g' := { g with forced := true }
    let s := s.setGrant t g'
    ok [] (if g.holdLine then s else report (holdReport t .asserted .forced g') s)

/-- HOLD_UNFORCE (R152, R153). -/
def ownerHoldUnforce : Owner := fun _ params s =>
  match readIndex 4 params with
  | none => turnDown .param s
  | some t =>
    let g := s.gu.grants.get t
    let g' := { g with forced := false }
    let s := s.setGrant t g'
    ok [] (if g.holdLine ∧ ¬ g'.holdLine then report (holdReport t .released .unforced g') s else s)

def execHoldForce (params : List Byte) (s : State) : Host.Outcome State Fault Refusal :=
  whenPowered s (serve .holdForce ownerHoldForce params)
def execHoldUnforce (params : List Byte) (s : State) : Host.Outcome State Fault Refusal :=
  whenPowered s (serve .holdUnforce ownerHoldUnforce params)

/-! ### STAGE_WRITE (R115, R116, R139, R155, R156) -/

/-- The grant record of a stage just enabled (R155). -/
def Grant.enabled (g : Grant) (floor : Nat) : Grant :=
  { g.enforce .powerUp with c := floor, t := floor, kind := .closed, applied := none, overrun := 0, last := .blind }

/-- The grant record of a stage just disabled (R156). The rule keeps cause and forced hold and is silent on the target kind and the last
second: that both stand as they were is the model's choice (DESIGN CHOICE, assumption 38). -/
def Grant.disabledAt (g : Grant) (floor : Nat) : Grant :=
  { g with
    compliance := .disabled, complianceTimer := none, holdTimer := none, c := floor, t := floor, applied := none
    overrun := 0 }

/-- The grant record of an enabled stage after its floor and top were written (R139), and whether LOWERED is due. -/
def Grant.refit (g : Grant) (old new : StageSettings) (deadline : Nat) : Grant × Bool :=
  let g' := { g with c := clampTo new.floor new.top g.c, t := clampTo new.floor new.top g.t }
  if g'.c = g.c ∧ new.top = old.top then (g', false) else g'.loweringTest g.c new.top deadline

/-- The engine as a stage is enabled or disabled (R116). -/
def Engine.rewrite (a : Engine) (t : StageId) (was now : Bool) : Engine :=
  if was = now then a
  else if now then { a with activity := a.activity.set t (some ⟨false, 0⟩) }
  else
    { a with
      activity := a.activity.set t none
      figures := a.figures.map fun f => { f with stages := f.stages.set t none }
      pass := a.pass.map fun i => { i with dropped := i.dropped.set t true } }

/-- The grant unit's side of a STAGE_WRITE. -/
def regrant (t : StageId) (old new : StageSettings) (s : State) : State :=
  let g := s.gu.grants.get t
  match old.enabled, new.enabled with
  | false, true =>
    let g' := g.enabled new.floor
    report (holdReport t .asserted .powerUp g') (s.setGrant t g')
  | true, false =>
    let g' := g.disabledAt new.floor
    let s := s.setGrant t g'
    if g.holdLine ∧ ¬ g.forced then report (holdReport t .released .disabled g') s else s
  | false, false => s.setGrant t { g with c := new.floor, t := new.floor }
  | true, true =>
    let x := g.refit old new s.settings.timing.deadline
    postLowered t x.1 x.2 (s.setGrant t x.1)

/-- An accepted STAGE_WRITE (R116). -/
def writeStage (t : StageId) (new : StageSettings) (s : State) : State :=
  let old := s.settings.stages.get t
  let s := { s with
    settings := { s.settings with stages := s.settings.stages.set t new }
    ae := s.ae.rewrite t old.enabled new.enabled }
  let s := if old.enabled ∧ ¬ new.enabled ∧ s.cs.running ∧ s.cs.stage = t then abandonSurvey .operator s else s
  regrant t old new s

/-- STAGE_WRITE (R115). -/
def ownerStageWrite : Owner := fun _ params s =>
  match readStage params with
  | none => turnDown .param s
  | some (t, enabled, floor, top, idle) =>
    let old := s.settings.stages.get t
    let new : StageSettings := ⟨enabled, floor, top, idle, old.share⟩
    let stages := s.settings.stages.set t new
    if enabled ∧ ¬ old.enabled ∧ 256 < enabledShares stages (stages.renew fun _ g => g.share) then turnDown .param s
    else if s.sessionIsOpen ∧ (enabled ≠ old.enabled ∨ floor ≠ old.floor ∨ top ≠ old.top) then
      turnDown (.state .sessionOpen) s
    else if s.isSaving then turnDown .busy s
    else ok [] (writeStage t new s)

def execStageWrite (params : List Byte) (s : State) : Host.Outcome State Fault Refusal :=
  whenPowered s (serve .stageWrite ownerStageWrite params)

end Sys2Proof.Machine
end

