-- ==== Sys2Proof/Machine/Boundary.lean ====
section
/-!
DEFINITION. The frame boundary (R37, R38), which joins the integrator, the schedule unit, the survey and the allocation engine in one
event; and the four rows of the table that name a boundary by what else it is.
-/

namespace Sys2Proof.Machine

/-- The phase count that a boundary sets (R37). -/
def nextPhase (phase : Nat) : Nat := if 3000 ≤ phase then 1 else phase + 1

/-- A boundary with this phase count is a second close (R37). -/
def isSecondClose (phase : Nat) : Bool := phase % 10 = 0
/-- A boundary with this phase count is a minute close (R37). -/
def isMinuteClose (phase : Nat) : Bool := phase % 600 = 0
/-- A boundary with this phase count is an interval close (R37). -/
def isIntervalClose (phase : Nat) : Bool := phase = 3000

/-- The snapshot is handed to the survey and to the engine (R58). The engine takes it, and starts its pass, before the survey counts
it, after that, or later, when other events may have come between (R101, R110, R112; assumptions 4, 25). -/
def handOver (snap : Snapshot) (s : State) : State :=
  let x := { s with ae := { s.ae with handed := some snap }, draws := s.draws + 1 }
  match Config.passStart s.draws with
  | .beforeSurvey => surveySnapshot snap (startWaiting x)
  | .afterSurvey => startWaiting (surveySnapshot snap x)
  | .later => surveySnapshot snap x

/-- Steps 1 and 2 of a boundary, the phase count being set (R38). -/
def boundaryFrames (s : State) : State :=
  sessionCount (frameWork { s with ei := { s.ei with phase := nextPhase s.ei.phase } })

/-- Steps 3 to 5 of a boundary: the closes that it is (R38). -/
def closeWork (s : State) : State :=
  let n := s.ei.phase
  let t := if isSecondClose n then secondMeans s else s
  let t := if isMinuteClose n then minuteWork t else t
  if isIntervalClose n then intervalWork t else t

/-- Steps 3 to 6 of a boundary (R38). -/
def boundaryCloses (s : State) : State :=
  let t := closeWork s
  if isSecondClose s.ei.phase then handOver (snapshotOf s t) t else t

/-- A frame boundary, taken whole (R38). -/
def frameBoundary (s : State) : State := boundaryCloses (boundaryFrames s)

/-- A boundary taken where the next one has a property, and no event otherwise (assumption 1). -/
def boundaryIf (due : Bool) (s : State) : State := if due then frameBoundary s else s

/-- SESSION_END (R49, R85): the boundary at which the session frame count reaches 0. -/
def sessionEnd (s : State) : State := boundaryIf (s.sessionIsOpen && s.ei.sessionFrames ≤ 1) s
/-- SECOND_CLOSE (R37, R55). -/
def secondClose (s : State) : State := boundaryIf (isSecondClose (nextPhase s.ei.phase)) s
/-- MINUTE_CLOSE (R37, R46). -/
def minuteClose (s : State) : State := boundaryIf (isMinuteClose (nextPhase s.ei.phase)) s
/-- INTERVAL_CLOSE (R37, R59). -/
def intervalClose (s : State) : State := boundaryIf (isIntervalClose (nextPhase s.ei.phase)) s

def execFrameBoundary (s : State) : Host.Outcome State Fault Refusal := whenPowered s frameBoundary
def execSessionEnd (s : State) : Host.Outcome State Fault Refusal := whenPowered s sessionEnd
def execSecondClose (s : State) : Host.Outcome State Fault Refusal := whenPowered s secondClose
def execMinuteClose (s : State) : Host.Outcome State Fault Refusal := whenPowered s minuteClose
def execIntervalClose (s : State) : Host.Outcome State Fault Refusal := whenPowered s intervalClose

end Sys2Proof.Machine
end

