-- ==== Sys2Proof/Machine/Payloads.lean ====
section
/-!
DEFINITION. What stations read: the bytes of records and notices (R205, R206), the payloads of the read requests STATUS_READ, LEVELS_READ,
SURVEY_READ, SCHED_READ and RECORD_READ (R80, R109, R166, R191, R192, R203), and the requests themselves. Widths and codes that
R198 leaves to a reading are those of assumption 14.
-/

namespace Sys2Proof.Machine

/-! ### Codes (R198, R205, R206) -/

/-- The numeric value of a tier. -/
def Tier.code : Tier → Nat
  | .fast => 0
  | .window => 1
  | .session => 2
/-- The numeric value of a source state, its position in R28's list. -/
def Source.code : Source → Nat
  | .primary => 0
  | .standby => 1
  | .blind => 2
  | .disabled => 3
/-- The numeric value of a line change. -/
def LineChange.code : LineChange → Nat
  | .asserted => 0
  | .released => 1
/-- The numeric value of a rejection's reason, in the order of R78; 0 for ADOPTED. -/
def schedReasonCode : Option SchedReason → Nat
  | none => 0
  | some .count => 1
  | some .order => 2
  | some .range => 3
  | some .window => 4
  | some .ramp => 5
  | some .sessionEnd => 6
/-- The numeric value of a close cause; 0 stands for OPENED. -/
def CloseCause.code : CloseCause → Nat
  | .request => 1
  | .ended => 2
  | .reset => 3
/-- The numeric value of an ACCESS event. -/
def AccessEvent.code : AccessEvent → Nat
  | .unauthorized => 0
  | .broken => 1
  | .cleared => 2
/-- The numeric value of a GAP cause. -/
def GapCause.code : GapCause → Nat
  | .powerUp => 0
  | .commandReset => 1
  | .storeInvalid => 2
  | .ringFull => 3
/-- The numeric value of an abandonment's reason, its position in R94's list. -/
def SurveyReason.code : SurveyReason → Nat
  | .notQuiet => 0
  | .channelLost => 1
  | .interference => 2
  | .weakSignal => 3
  | .operator => 4
/-- The numeric value of a survey state, its position in R94's list. -/
def SurveyState.code : SurveyState → Nat
  | .idle => 0
  | .quiet => 1
  | .signal => 2
  | .done => 3
  | .aborted => 4
/-- The numeric value of a role, its position in R186's list. -/
def Role.code : Role → Nat
  | .unassigned => 0
  | .authority => 1
  | .operator => 2
  | .production _ => 3
  | .observer => 4
/-- The numeric value of an arbiter state, its position in R181's list. -/
def ArbState.code : ArbState → Nat
  | .idle => 0
  | .waiting => 1
  | .granted => 2
  | .parked => 3
  | .broken => 4
/-- The numeric value of a mark. -/
def Mark.code : Mark → Nat
  | .none => 0
  | .top => 1
  | .floor => 2
  | .curfew => 3
  | .stop => 4
  | .survey => 5
  | .closed => 6
/-- The two bytes of a binding, coded as in CHANNEL_BIND (R205). For UNUSED, whose index CHANNEL_BIND ignores (R202), no rule gives
the index byte that LEVELS_READ sends (R36): that it is 0 is the model's choice (assumption 36). -/
def Binding.bytes : Binding → List Byte
  | .unused => u8 0 ++ u8 0
  | .primary k => u8 1 ++ u8 k.1
  | .standby k => u8 2 ++ u8 k.1
  | .reference t => u8 3 ++ u8 t.1

/-! ### Records (R206) -/

/-- The kind number of a record. -/
def RecordBody.kind : RecordBody → Nat
  | .exceedanceStart .. => 1
  | .exceedanceEnd .. => 2
  | .intervalSummary .. => 3
  | .enforcement .. => 4
  | .schedule .. => 5
  | .sessionOpened .. => 6
  | .sessionClosed .. => 6
  | .curfewApproach _ => 7
  | .curfewStop _ => 7
  | .sensorChannel .. => 8
  | .sensorPoint .. => 8
  | .access .. => 9
  | .clock .. => 10
  | .gap .. => 11

/-- The bytes of a stage's last second: L_s, optional, absent when blind. -/
def Second.bytes : Second → List Byte
  | .blind => optional 2 none
  | .seeing l => optional 2 (some (u16 l))

/-- The fields of a record after its header. -/
def RecordBody.fields : RecordBody → List Byte
  | .exceedanceStart k tier start limit => u8 k.1 ++ u8 tier.code ++ u16 start ++ u16 limit
  | .exceedanceEnd k tier peak duration => u8 k.1 ++ u8 tier.code ++ u16 peak ++ u32 duration
  | .intervalSummary k la lc mx blind loud missed source =>
    u8 k.1 ++ u16 la ++ u16 lc ++ u16 mx ++ u16 blind ++ u16 loud ++ u16 missed ++ u8 source.code
  | .enforcement t change cause c last => u8 t.1 ++ u8 change.code ++ u8 cause.code ++ u16 c ++ last.bytes
  | .schedule reason count => u8 (if reason.isSome then 1 else 0) ++ u8 (schedReasonCode reason) ++ u8 count
  | .sessionOpened slot fS => u8 0 ++ u8 slot.1 ++ u32 fS ++ u8 0
  | .sessionClosed slot fS cause => u8 1 ++ u8 slot.1 ++ u32 fS ++ u8 cause.code
  | .curfewApproach minute => u8 0 ++ u16 minute
  | .curfewStop minute => u8 1 ++ u16 minute
  | .sensorChannel ch state => u8 0 ++ u8 ch.1 ++ u8 state.code
  | .sensorPoint k source => u8 1 ++ u8 k.1 ++ u8 source.code
  | .access slot event code => u8 slot.1 ++ u8 event.code ++ [if event = .unauthorized then code else 0]
  | .clock old new => timeBytes old ++ timeBytes new
  | .gap cause lost => u8 cause.code ++ u16 lost

/-- The bytes of a record: the 12-byte header, then its fields. -/
def Record.bytes (r : Record) : List Byte :=
  u32 r.number ++ u8 r.body.kind ++ u8 (12 + r.body.fields.length) ++ timeBytes r.stamp ++ r.body.fields

/-! ### Notices (R205) -/

/-- The three detail bytes of a notice. -/
def Notice.detail : Notice → List Byte
  | .hold t change cause => u8 t.1 ++ u8 change.code ++ u8 cause.code
  | .exceed k tier => u8 k.1 ++ u8 tier.code ++ u8 0
  | .curfewApproach minute => u8 0 ++ u16 minute
  | .curfewStop minute => u8 1 ++ u16 minute
  | .sensorChannel ch => u8 0 ++ u8 ch.1 ++ u8 0
  | .sensorPoint k => u8 1 ++ u8 k.1 ++ u8 0
  | .lowered t c => u8 t.1 ++ u16 c
  | .schedule reason => u8 (if reason.isSome then 1 else 0) ++ u8 (schedReasonCode reason) ++ u8 0
  | .survey outcome t => u8 (match outcome with | none => 0 | some r => r.code + 1) ++ u8 t.1 ++ u8 0
  | .ring held => u16 held ++ u8 0
  | .access slot event => u8 slot.1 ++ u8 event.code ++ u8 0
  | .clock valid => flag valid ++ u8 0 ++ u8 0

/-- The two bytes of a mask of classes: bit (priority number − 1) set for each class in the list. -/
def classMask (ns : List Notice) : List Byte := u16 ((List.range 10).map fun i => if ns.any (·.rank = i) then 2 ^ i else 0).sum

/-- The notice part of STATUS_READ for a pending set: class, detail, remaining classes (R174). -/
def noticePart : List Notice → List Byte
  | [] => u8 0 ++ u8 0 ++ u8 0 ++ u8 0 ++ u16 0
  | n :: rest => u8 (n.rank + 1) ++ n.detail ++ classMask rest

/-! ### STATUS_READ (R174, R191) -/

/-- The session group: the flag, then end minute, F_S and frames remaining, optional. -/
def sessionBytes (s : State) : List Byte :=
  flag s.sessionIsOpen ++ optional 10 (s.su.session.map fun q => u16 q.endMinute ++ u32 q.fS ++ u32 s.ei.sessionFrames)

/-- The source of the limits in force and the index of the period in force (R203). -/
def sourceBytes (l : Limits) : List Byte :=
  match l.source with
  | none => u8 0 ++ u8 0
  | some i => u8 1 ++ u8 i

/-- The stage of a role, optional (R186). -/
def Role.stageBytes : Role → List Byte
  | .production t => optional 1 (some (u8 t.1))
  | _ => optional 1 none

/-- One slot of the summary (R191). -/
def slotBytes (s : State) (k : SlotId) : List Byte :=
  let st := s.settings.stations.get k
  u8 st.role.code ++ st.role.stageBytes ++ flag st.authorized ++ u8 (s.la.stateOf k).code ++ u8 (s.la.slots.get k).missRun

/-- The summary of STATUS_READ (R191). -/
def summaryBytes (s : State) : List Byte :=
  let info := s.curfewInfo
  timeBytes s.su.clock ++ sessionBytes s ++ flag info.stop ++ optional 2 (info.seconds.map u16) ++ flag s.ae.approach.isSome ++
    flag s.su.commit ++ sourceBytes s.su.limits ++ u8 s.cs.state.code ++ u8 s.cs.stage.1 ++
    (allStages.flatMap fun t => flag (s.gu.grants.get t).holdLine) ++ flag s.isSaving ++ u16 s.rr.list.length ++
    u16 s.rr.lost ++ (allSlots.flatMap fun k => slotBytes s k)

/-- The state with the pending set of slot `k` replaced. -/
def State.setPendingSet (s : State) (k : SlotId) (ns : List Notice) : State :=
  { s with nu := s.nu.set k { s.nu.get k with pending := ns } }

/-- STATUS_READ (R191): the summary, and the notice of highest priority, which is removed (R174). -/
def ownerStatusRead : Owner := fun k _ s =>
  let ns := (s.nu.get k).pending
  ok (summaryBytes s ++ noticePart ns) (s.setPendingSet k ns.tail)

/-! ### LEVELS_READ (R192, R205) -/

/-- One channel of CHANNELS. -/
def channelBytes (s : State) (c : ChannelId) : List Byte :=
  let x := s.sp.get c
  (s.settings.channelMap.get c).binding.bytes ++ u8 x.state.code ++ u16 x.accepted ++ u16 x.la ++ u16 x.lc ++ u8 x.badRun

/-- The allocation figures of a point, one optional value. -/
def standingBytes (x : Option PointStanding) : List Byte :=
  optional 8 (x.map fun
    | .unconstrained => flag false ++ u16 0 ++ u8 0 ++ u16 0 ++ u16 0
    | .constrained f => flag true ++ u16 f.lvA ++ u8 f.tier.code ++ u16 f.lvB ++ u16 f.lvV)

/-- What the last completed pass shows of point `k`. -/
def Engine.standing (a : Engine) (k : PointId) : Option PointStanding :=
  match a.figures with
  | none => none
  | some f => match f.points with
    | none => none
    | some b => b.get k

/-- One point of POINTS. -/
def pointBytes (s : State) (k : PointId) : List Byte :=
  let q := s.settings.points.get k
  let x := s.ei.points.get k
  flag q.enabled ++ u8 q.zone.1 ++ u8 (s.pm.points.get k).source.code ++ u16 x.latest ++ flag x.fastEp.isSome ++
    flag x.windowEp.isSome ++ flag x.sessionEp.isSome ++ u64 x.eS ++ standingBytes (s.ae.standing k)

/-- The five bytes of a named constraint. -/
def Constraint.bytes (c : Constraint) : List Byte :=
  u8 c.mark.code ++ optional 1 (c.point.map fun k => u8 k.1) ++ optional 1 (c.tier.map fun t => u8 t.code)

/-- What the last completed pass shows of stage `t`. -/
def Engine.entry (a : Engine) (t : StageId) : Option PassEntry :=
  match a.figures with
  | none => none
  | some f => f.stages.get t

/-- The activity of a stage as it is reported: that of the last completed pass, else the engine's; PLAYING for a disabled stage
(R192, assumption 24). -/
def Engine.reportedIdle (a : Engine) (t : StageId) : Bool :=
  match a.activity.get t with
  | none => false
  | some x => match a.entry t with
    | none => x.idle
    | some e => e.idle

/-- One stage of STAGES. -/
def stageBytes (s : State) (t : StageId) : List Byte :=
  let q := s.settings.stages.get t
  let x := s.ei.stages.get t
  let g := s.gu.grants.get t
  flag q.enabled ++ u16 q.floor ++ u16 q.top ++ u16 q.idle ++ u16 q.share ++ flag (s.pm.refs.get t).seeing ++ u16 x.latest ++
    flag x.lastSeeing ++ flag (s.ae.reportedIdle t) ++
    optional 10 ((s.ae.entry t).map fun e => u16 e.target ++ u8 e.kind.code ++ u16 e.share ++ e.named.bytes) ++
    u8 g.compliance.code ++ u16 g.c ++ u16 g.t ++ flag g.holdLine

/-- The payload of LEVELS_READ for a part. -/
def levelsPayload (s : State) : LevelsPart → List Byte
  | .channels first => ((allChannels.drop first).take 8).flatMap fun c => channelBytes s c
  | .points first => ((allPoints.drop first).take 4).flatMap fun k => pointBytes s k
  | .stages => u32 s.ei.sessionFrames ++ allStages.flatMap fun t => stageBytes s t

/-- LEVELS_READ (R192). -/
def ownerLevelsRead : Owner := fun _ params s =>
  match readLevelsPart params with
  | none => turnDown .param s
  | some part => ok (levelsPayload s part) s

/-! ### SURVEY_READ (R109) -/

/-- One point of the result table. -/
def PointResult.bytes (x : PointResult) : List Byte :=
  u8 (if x.code.isSome then 0 else 1) ++ optional 2 (x.code.map i16) ++ optional 2 (x.lvB.map u16) ++ optional 2 (x.lvS.map u16)

/-- The result table with Lv(r). -/
def SurveyResults.bytes (r : SurveyResults) : List Byte := (allPoints.flatMap fun k => (r.points.get k).bytes) ++ u16 r.lvR

/-- The payload of SURVEY_READ. -/
def surveyPayload (v : Survey) : List Byte :=
  u8 v.state.code ++ u8 v.stage.1 ++ u8 v.d ++ u16 v.level ++ u8 v.phaseSecs ++ u8 v.excluded ++ u8 v.strong ++
    optional 1 (v.reason.map fun r => u8 r.code) ++
    (allPoints.flatMap fun k => u8 (v.quiet.get k).unusable ++ u8 (v.signal.get k).unusable) ++
    optional 82 (v.results.map SurveyResults.bytes)

/-- SURVEY_READ (R109). -/
def ownerSurveyRead : Owner := fun _ _ s => ok (surveyPayload s.cs) s

/-! ### SCHED_READ (R80, R203) -/

/-- A zone entry, 6 bytes. -/
def ZoneLimits.bytes (z : ZoneLimits) : List Byte :=
  u8 ((if z.lf.isSome then 1 else 0) + (if z.window.isSome then 2 else 0)) ++ u16 (z.lf.getD 0) ++
    (match z.window with
      | none => u16 0 ++ u8 0
      | some w => u16 w.lw ++ u8 w.n)

/-- Four zone entries, 24 bytes. -/
def zonesBytes (b : Bank 4 ZoneLimits) : List Byte := (b.get 0).bytes ++ (b.get 1).bytes ++ (b.get 2).bytes ++ (b.get 3).bytes

/-- A period record, 28 bytes. -/
def Period.bytes (q : Period) : List Byte :=
  u16 q.start ++ u8 (if q.kind = .stop then 1 else 0) ++ u8 q.ramp ++ zonesBytes q.zones

/-- A session allowance table as SESSION_LIMIT_WRITE lays it out. -/
def Allowance.bytes (a : Allowance) : List Byte :=
  optional 2 ((a.ls.get 0).map u16) ++ optional 2 ((a.ls.get 1).map u16) ++ optional 2 ((a.ls.get 2).map u16) ++
    optional 2 ((a.ls.get 3).map u16) ++ u16 a.latestEnd

/-- The header of SCHED_READ, 13 bytes. -/
def schedHeader (s : State) (returned : Nat) : List Byte :=
  timeBytes s.su.clock ++ sourceBytes s.su.limits ++ flag s.su.limits.stop.isSome ++ u8 s.settings.schedule.length ++
    u8 s.su.pendingList.length ++ flag s.su.commit ++ u8 returned

/-- Up to four period records from an index on. -/
def schedWindow (ps : List Period) (first : Nat) : List Period := (ps.drop first).take 4

/-- The payload of SCHED_READ. The entries returned of FALLBACK are its four, of ALLOWANCE its two (assumption 28). -/
def schedPayload (s : State) (l : SchedList) (first : Nat) : List Byte :=
  match l with
  | .active => schedHeader s (schedWindow s.settings.schedule first).length ++
      (schedWindow s.settings.schedule first).flatMap Period.bytes
  | .pending => schedHeader s (schedWindow s.su.pendingList first).length ++
      (schedWindow s.su.pendingList first).flatMap Period.bytes
  | .fallback => schedHeader s 4 ++ zonesBytes s.settings.fallback
  | .allowance => schedHeader s 2 ++ s.settings.allowance.bytes ++ s.su.pendingAllowance.bytes

/-- SCHED_READ (R80). -/
def ownerSchedRead : Owner := fun _ params s =>
  match readSchedList params with
  | none => turnDown .param s
  | some (l, first) => ok (schedPayload s l first) s

/-! ### RECORD_READ (R166, R206) -/

/-- The records that fit, in order, up to the first that does not: `room` bytes are left (R166). -/
def fitting : Nat → List Record → List Record
  | _, [] => []
  | room, r :: rs => if r.bytes.length ≤ room then r :: fitting (room - r.bytes.length) rs else []

/-- The records a read returns (R166). -/
def recordsRead (list : List Record) (offset count : Nat) : List Record := fitting 123 ((list.drop offset).take count)

/-- The payload of RECORD_READ. -/
def recordPayload (q : RecordRing) (offset count : Nat) : List Byte :=
  let rs := recordsRead q.list offset count
  u16 q.list.length ++ u16 q.lost ++ u8 rs.length ++ rs.flatMap Record.bytes

/-- RECORD_READ (R166). -/
def ownerRecordRead : Owner := fun _ params s =>
  match readRecordSpan params with
  | none => turnDown .param s
  | some (offset, count) => ok (recordPayload s.rr offset count) s

def execStatusRead (params : List Byte) (s : State) : Host.Outcome State Fault Refusal :=
  whenPowered s (serve .statusRead ownerStatusRead params)
def execLevelsRead (params : List Byte) (s : State) : Host.Outcome State Fault Refusal :=
  whenPowered s (serve .levelsRead ownerLevelsRead params)
def execSurveyRead (params : List Byte) (s : State) : Host.Outcome State Fault Refusal :=
  whenPowered s (serve .surveyRead ownerSurveyRead params)
def execSchedRead (params : List Byte) (s : State) : Host.Outcome State Fault Refusal :=
  whenPowered s (serve .schedRead ownerSchedRead params)
def execRecordRead (params : List Byte) (s : State) : Host.Outcome State Fault Refusal :=
  whenPowered s (serve .recordRead ownerRecordRead params)

end Sys2Proof.Machine
end

