-- ==== Sys2Proof/Machine/Access.lean ====
section
/-!
DEFINITION. Requests that write the station table, the dispatch table, the timing settings and the attention enable, and the release of
records (R165, R167, R171, R173, R176, R187, R193).
-/

namespace Sys2Proof.Machine

/-- RECORD_RELEASE's effect (R165, R167): the `n` oldest records go; where records were lost, a GAP record of RING_FULL is
offered, which may cross the threshold (R168), and the lost count becomes 0. -/
def releaseRecords (n : Nat) (s : State) : State :=
  let lost := s.rr.lost
  let s := { s with rr := { s.rr with list := s.rr.list.drop n } }
  if lost = 0 then s
  else
    let s := offer (.gap .ringFull lost) s
    { s with rr := { s.rr with lost := 0 } }

/-- The append number of the record at a position, 0 beyond the list. -/
def RecordRing.numberAt (q : RecordRing) (i : Nat) : Nat := (q.list[i]?.map (·.number)).getD 0

/-- RECORD_RELEASE (R167): answered with the first and last append numbers removed and the held count after the event. -/
def ownerRecordRelease : Owner := fun _ params s =>
  match readCount params with
  | none => turnDown .param s
  | some n =>
    if s.rr.list.length < n then turnDown .param s
    else
      let s' := releaseRecords n s
      ok (u32 (s.rr.numberAt 0) ++ u32 (s.rr.numberAt (n - 1)) ++ u16 s'.rr.list.length) s'

/-- NOTICE_ENABLE (R176): answered with the line after the event and the classes pending (R205). -/
def ownerNoticeEnable : Owner := fun k params s =>
  match readEnable params with
  | none => turnDown .param s
  | some e =>
    let x := { s.nu.get k with enable := e }
    ok (flag x.attention ++ classMask x.pending) { s with nu := s.nu.set k x }

/-- DISPATCH_WRITE (R171). -/
def ownerDispatchWrite : Owner := fun _ params s =>
  match readDispatch params with
  | none => turnDown .param s
  | some (c, m) =>
    if s.isSaving then turnDown .busy s
    else ok [] (s.withSettings { s.settings with dispatch := s.settings.dispatch.set c m })

/-- Another slot holds a production binding to the stage (R187, condition 5). -/
def Settings.stageHeld (g : Settings) (k : SlotId) (r : Role) : Bool :=
  match r with
  | .production t => allSlots.any fun j => j ≠ k && (g.stations.get j).role = .production t
  | _ => false

/-- An accepted ROLE_WRITE; a change of role, stage or authorized flag empties the slot's pending set (R173, R187). -/
def writeStation (k : SlotId) (x : Station) (s : State) : State :=
  let old := s.settings.stations.get k
  let s := s.withSettings { s.settings with stations := s.settings.stations.set k x }
  if x.role ≠ old.role ∨ x.authorized ≠ old.authorized then s.setPendingSet k [] else s

/-- ROLE_WRITE (R187). -/
def ownerRoleWrite : Owner := fun _ params s =>
  match readStation params with
  | none => turnDown .param s
  | some (k, x) =>
    if k = 0 ∨ x.role = .authority ∨ (x.role = .unassigned ∧ x.authorized) ∨ s.settings.stageHeld k x.role then
      turnDown .param s
    else if s.isSaving then turnDown .busy s
    else ok [] (writeStation k x s)

/-- An accepted TIMING_WRITE (R193): a change of D_F adjusts every bucket (R44); a threshold lowered to the held count or below
posts RING (R168). -/
def writeTiming (g : Timing) (s : State) : State :=
  let old := s.settings.timing
  let s := s.withSettings { s.settings with timing := g }
  let s := if g.depth = old.depth then s else adjustBuckets s
  if s.rr.list.length < old.threshold ∧ g.threshold ≤ s.rr.list.length then post (.ring s.rr.list.length) s else s

/-- TIMING_WRITE (R193). -/
def ownerTimingWrite : Owner := fun _ params s =>
  match readTiming params with
  | none => turnDown .param s
  | some g => if s.isSaving then turnDown .busy s else ok [] (writeTiming g s)

def execRecordRelease (params : List Byte) (s : State) : Host.Outcome State Fault Refusal :=
  whenPowered s (serve .recordRelease ownerRecordRelease params)
def execNoticeEnable (params : List Byte) (s : State) : Host.Outcome State Fault Refusal :=
  whenPowered s (serve .noticeEnable ownerNoticeEnable params)
def execDispatchWrite (params : List Byte) (s : State) : Host.Outcome State Fault Refusal :=
  whenPowered s (serve .dispatchWrite ownerDispatchWrite params)
def execRoleWrite (params : List Byte) (s : State) : Host.Outcome State Fault Refusal :=
  whenPowered s (serve .roleWrite ownerRoleWrite params)
def execTimingWrite (params : List Byte) (s : State) : Host.Outcome State Fault Refusal :=
  whenPowered s (serve .timingWrite ownerTimingWrite params)

end Sys2Proof.Machine
end

