-- ==== Sys2Proof/Machine/StartUp.lean ====
section
/-!
DEFINITION. The settings store and the two resets (10_stored_settings_and_start_up.md): saving, power-up, the command reset, loss of
power; and RESPONSE_END, at which a RESET answered OK takes effect.
-/

namespace Sys2Proof.Machine

/-! ### The store (R194, R195) -/

/-- The check over the image, recomputed, matches the check value written with it (R194). -/
def Store.matches (st : Store) : Bool := Config.imageCheck st.image = st.check

/-- The settings a load gives: the image where its check matches, the factory defaults otherwise (R194). -/
def Store.load (st : Store) : Settings := if st.matches then st.image else Settings.factory

/-- The store after a save that did not complete: the image fails its check (R195). The check value it stands with is free, but for
the one that would match; what was written of the new image is not kept, since nothing reads an image that fails (assumption 10). -/
def Store.torn (st : Store) (draws : Nat) : Store :=
  let x := Config.tornCheck draws
  ⟨st.image, if x = Config.imageCheck st.image then ~~~x else x, none⟩

/-- STORE_SAVE (R195): the store copies every setting and begins to write. -/
def ownerStoreSave : Owner := fun _ _ s =>
  if s.isSaving then turnDown .busy s else ok [] { s with st := { s.st with saving := some s.settings } }

/-- SAVE_COMPLETION (R195): the new image replaces the old one whole. -/
def saveCompletion (s : State) : State :=
  match s.st.saving with
  | none => s
  | some g => { s with st := .written g }

/-- The store as supply is lost, with the number of free draws made: a save in progress leaves an image that fails its check
(R195). -/
def Store.afterLoss (st : Store) (draws : Nat) : Store × Nat :=
  if st.saving.isSome then (st.torn draws, draws + 1) else (st, draws)

/-- The store as NPOR is released, with the number of free draws made: a save in progress has a fate the spec does not give
(assumption 7). -/
def Store.afterNpor (st : Store) (draws : Nat) : Store × Nat :=
  match st.saving with
  | none => (st, draws)
  | some g =>
    match Config.imageAfterNpor draws with
    | .kept => ({ st with saving := none }, draws + 1)
    | .replaced => (.written g, draws + 1)
    | .failing => (st.torn draws, draws + 1)

/-- LOSS_OF_POWER (R106, R111, R169, R195): only the image outlives it. The working state is blank until the next power-up
(assumption 19). -/
def lossOfPower (s : State) : State :=
  let st := s.st.afterLoss s.draws
  { State.afterPowerUp Settings.factory (s.la.slots.renew fun _ x => x.line) st.1 st.2 s.pending with powered := false }

/-! ### Resets (R168, R196, R197) -/

/-- The ring judges its crossing once for the records a reset offered before the pending sets were emptied: it stood below the
threshold `old`, `before` records being held, and stands at or above the threshold as loaded (R168). -/
def judgeRing (before old : Nat) (s : State) : State :=
  if before < old ∧ s.settings.timing.threshold ≤ s.rr.list.length then post (.ring s.rr.list.length) s else s

/-- The GAP record of a failed check, none where the image is whole (R196, R197). -/
def storeGap (st : Store) (lost : Nat) : List RecordBody := if st.matches then [] else [.gap .storeInvalid lost]

/-- POWER_UP (R196): ring, load, blocks, and the first grant or park. -/
def powerUp (s : State) : State :=
  let st := s.st.afterNpor s.draws
  let u := State.afterPowerUp st.1.load (s.la.slots.renew fun _ x => x.line) st.1 st.2 s.pending
  freeLink (judgeRing 0 1 (offerAllQuiet (.gap .powerUp 0 :: storeGap st.1 0) u))

/-- Steps 1 to 3 of a command reset: the terminations, the episode ends and the session close, with their records (R197). -/
def resetEnds (s : State) : State :=
  let ends := allPoints.flatMap fun k => endsOf k (s.ei.points.get k) allTiers
  let close := match s.su.session with
    | none => []
    | some q => [RecordBody.sessionClosed q.slot q.fS .reset]
  let cleared := { s with
    ei := { s.ei with points := s.ei.points.renew fun _ x => x.clearTiers allTiers }
    cs := Survey.afterReset
    ae := { s.ae with pass := none } }
  offerAllQuiet (ends ++ close) (clearSession cleared)

/-- A snapshot that the engine has not yet taken as a reset comes: R112 lets its pass start after the reset, R111 and R133 start none
before the next second close, so whether it is kept is free (assumption 34). -/
def resetHanded (s : State) : State :=
  match s.ae.handed with
  | none => s
  | some snap =>
    let kept := if Config.snapshotOutlivesReset s.draws then some snap else none
    { s with ae := { s.ae with handed := kept }, draws := s.draws + 1 }

/-- Steps 4 and 5: the GAP records and the load (R197). -/
def resetLoad (s : State) : State :=
  let s := offerQuiet (.gap .commandReset s.rr.lost) s
  (offerAllQuiet (storeGap s.st s.rr.lost) s).withSettings s.st.load

/-- Step 6: the blocks take their values after a command reset (R34, R35, R62, R88, R133, R159, R177, R185). The integrator,
the clock, the limits in force and the ring stay for the steps that follow. -/
def resetBlocks (s : State) : State :=
  let g := s.settings
  { s with
    sp := g.channelMap.renew fun _ e => Channel.afterReset e
    pm := ⟨g.points.renew fun _ q => PointView.afterReset q, Bank.fill 4 RefView.afterReset⟩
    su := s.su.dropPending g.allowance
    ae := ⟨g.stages.renew fun _ q => Activity.afterReset q, none, none, none, s.ae.handed⟩
    gu := ⟨g.stages.renew fun _ q => Grant.afterReset q, false, CurfewInfo.none⟩
    nu := Bank.fill 8 NoticeSlot.afterReset
    la := { s.la with
      slots := s.la.slots.renew fun _ x => ⟨x.line, false, 0⟩
      link := .free none, level1Zero := false, level2 := 7, lastGranted := none, resetDue := false }
    st := { s.st with saving := none } }

/-- Step 8: CLEARED for each slot that was BROKEN, in slot order (R185). -/
def resetAccess (old : Bank 8 ArbSlot) : List Report :=
  allSlots.flatMap fun k => if (old.get k).broken then [accessReport k .cleared 0] else []

/-- Step 9: the enforcement of each stage, in stage order, by its grant record before and after (R159). -/
def resetHolds (old new : Bank 4 Grant) : List Report :=
  allStages.flatMap fun t =>
    let was := old.get t
    let now := new.get t
    if now.holdLine then [holdReport t .asserted .powerUp now]
    else if was.holdLine then [holdReport t .released (if was.forced then .unforced else .disabled) now]
    else []

/-- The command reset (R197). -/
def commandReset (s : State) : State :=
  let s6 := resetHanded (resetBlocks (resetLoad (resetEnds s)))
  let s7 := adjustBuckets (recompute (judgeRing s.rr.list.length s.settings.timing.threshold s6))
  freeLink (reportAll (resetAccess s.la.slots ++ resetHolds s.gu.grants s7.gu.grants) s7)

/-- The link is in a response whose end is a command reset. -/
def State.resetAwaits (s : State) : Bool :=
  s.la.resetDue && (match s.la.link with | .responding _ => true | _ => false)

/-- RESPONSE_END (R178): the grant is released; after a RESET answered OK the reset takes effect now (R197). -/
def responseEnd (s : State) : State :=
  match s.la.link with
  | .responding _ => if s.la.resetDue then commandReset s else freeLink s
  | _ => s

/-- RESET (R197): refused BUSY during a save, otherwise answered OK, and due when that response ends. -/
def ownerReset : Owner := fun _ _ s =>
  if s.isSaving then turnDown .busy s else ok [] { s with la := { s.la with resetDue := true } }

def execStoreSave (params : List Byte) (s : State) : Host.Outcome State Fault Refusal :=
  whenPowered s (serve .storeSave ownerStoreSave params)
def execReset (params : List Byte) (s : State) : Host.Outcome State Fault Refusal :=
  whenPowered s (serve .reset ownerReset params)
def execSaveCompletion (s : State) : Host.Outcome State Fault Refusal := whenPowered s saveCompletion
def execResponseEnd (s : State) : Host.Outcome State Fault Refusal := whenPowered s responseEnd
/-- COMMAND_RESET (R197): the end of the response to RESET, where one is due (assumption 29). -/
def execCommandReset (s : State) : Host.Outcome State Fault Refusal :=
  whenPowered s fun s => if s.resetAwaits then commandReset s else s
/-- POWER_UP (R196): supply is applied, or NPOR is released while it stands. What the part does while NPOR is held low is given by no
rule: the model has no such state, and the part goes on as it stands until the release (assumption 37). -/
def execPowerUp (s : State) : Host.Outcome State Fault Refusal := .next (powerUp s)
def execLossOfPower (s : State) : Host.Outcome State Fault Refusal := whenPowered s lossOfPower

end Sys2Proof.Machine
end

