-- ==== Sys2Proof/Machine/Dispatch.lean ====
section
/-!
DEFINITION. The meaning of every command: one arm per row of the table, each one direct call.
-/

namespace Sys2Proof.Machine

def exec (i : Instr) (s : State) : Host.Outcome State Fault Refusal :=
  match i with
  -- events of the sensor side and the integrator
  | .frameArrival ch cand => Sys2Proof.Machine.execFrameArrival ch cand s
  | .silenceTimerExpiry ch => Sys2Proof.Machine.execSilenceTimerExpiry ch s
  | .frameBoundary => Sys2Proof.Machine.execFrameBoundary s
  | .sessionEnd => Sys2Proof.Machine.execSessionEnd s
  | .secondClose => Sys2Proof.Machine.execSecondClose s
  | .minuteClose => Sys2Proof.Machine.execMinuteClose s
  | .intervalClose => Sys2Proof.Machine.execIntervalClose s
  -- events of the grant unit, the clock and the store
  | .passResult => Sys2Proof.Machine.execPassResult s
  | .complianceTimerExpiry stage => Sys2Proof.Machine.execComplianceTimerExpiry stage s
  | .holdMinimumExpiry stage => Sys2Proof.Machine.execHoldMinimumExpiry stage s
  | .clockAdvance => Sys2Proof.Machine.execClockAdvance s
  | .clockMinuteBoundary => Sys2Proof.Machine.execClockMinuteBoundary s
  | .saveCompletion => Sys2Proof.Machine.execSaveCompletion s
  | .powerUp => Sys2Proof.Machine.execPowerUp s
  | .commandReset => Sys2Proof.Machine.execCommandReset s
  -- events of the link
  | .requestLineAsserted slot => Sys2Proof.Machine.execRequestLineAsserted slot s
  | .requestLineReleased slot => Sys2Proof.Machine.execRequestLineReleased slot s
  | .parkedWindowExpiry => Sys2Proof.Machine.execParkedWindowExpiry s
  | .parkedFrameStart => Sys2Proof.Machine.execParkedFrameStart s
  | .grantWindowExpiry => Sys2Proof.Machine.execGrantWindowExpiry s
  | .frameLengthExcess length => Sys2Proof.Machine.execFrameLengthExcess length s
  | .frameTimeLimit => Sys2Proof.Machine.execFrameTimeLimit s
  | .badFrameEnd chars => Sys2Proof.Machine.execBadFrameEnd chars s
  | .linkIdleGap => Sys2Proof.Machine.execLinkIdleGap s
  | .responseEnd => Sys2Proof.Machine.execResponseEnd s
  | .unknownRequest code params => Sys2Proof.Machine.execUnknownRequest code params s
  -- requests
  | .statusRead params => Sys2Proof.Machine.execStatusRead params s
  | .levelsRead params => Sys2Proof.Machine.execLevelsRead params s
  | .noticeEnable params => Sys2Proof.Machine.execNoticeEnable params s
  | .grantQuery params => Sys2Proof.Machine.execGrantQuery params s
  | .grantAck params => Sys2Proof.Machine.execGrantAck params s
  | .sessionOpen params => Sys2Proof.Machine.execSessionOpen params s
  | .sessionClose params => Sys2Proof.Machine.execSessionClose params s
  | .pointWrite params => Sys2Proof.Machine.execPointWrite params s
  | .stageWrite params => Sys2Proof.Machine.execStageWrite params s
  | .channelBind params => Sys2Proof.Machine.execChannelBind params s
  | .shareWrite params => Sys2Proof.Machine.execShareWrite params s
  | .couplingWrite params => Sys2Proof.Machine.execCouplingWrite params s
  | .couplingRead params => Sys2Proof.Machine.execCouplingRead params s
  | .surveyStart params => Sys2Proof.Machine.execSurveyStart params s
  | .surveyAbort params => Sys2Proof.Machine.execSurveyAbort params s
  | .surveyAccept params => Sys2Proof.Machine.execSurveyAccept params s
  | .surveyDiscard params => Sys2Proof.Machine.execSurveyDiscard params s
  | .surveyRead params => Sys2Proof.Machine.execSurveyRead params s
  | .schedRead params => Sys2Proof.Machine.execSchedRead params s
  | .schedWrite params => Sys2Proof.Machine.execSchedWrite params s
  | .schedClear params => Sys2Proof.Machine.execSchedClear params s
  | .schedCommit params => Sys2Proof.Machine.execSchedCommit params s
  | .sessionLimitWrite params => Sys2Proof.Machine.execSessionLimitWrite params s
  | .fallbackWrite params => Sys2Proof.Machine.execFallbackWrite params s
  | .timeSet params => Sys2Proof.Machine.execTimeSet params s
  | .roleWrite params => Sys2Proof.Machine.execRoleWrite params s
  | .dispatchWrite params => Sys2Proof.Machine.execDispatchWrite params s
  | .holdForce params => Sys2Proof.Machine.execHoldForce params s
  | .holdUnforce params => Sys2Proof.Machine.execHoldUnforce params s
  | .recordRead params => Sys2Proof.Machine.execRecordRead params s
  | .recordRelease params => Sys2Proof.Machine.execRecordRelease params s
  | .arbWrite params => Sys2Proof.Machine.execArbWrite params s
  | .arbClear params => Sys2Proof.Machine.execArbClear params s
  | .timingWrite params => Sys2Proof.Machine.execTimingWrite params s
  | .storeSave params => Sys2Proof.Machine.execStoreSave params s
  | .reset params => Sys2Proof.Machine.execReset params s
  -- the two events the table lists last
  | .receiverIdleGap ch => Sys2Proof.Machine.execReceiverIdleGap ch s
  | .lossOfPower => Sys2Proof.Machine.execLossOfPower s

end Sys2Proof.Machine
end

