-- ==== Sys2Proof/Safety.lean ====
section
/-!
DEFINITION. What the statements hold the part to: the predicates of the state that the spec says always hold, each named after its
rule, and what it means that a request is served.
-/

namespace Sys2Proof.Machine

/-! ### Invariants -/

/-- R161: the ring holds at most 1024 records. -/
def State.ringBounded (s : State) : Prop := s.rr.list.length ≤ ringCapacity

/-- R63: the day number and the seconds of day lie in their ranges. -/
def State.clockInRange (s : State) : Prop := s.su.clock.day ≤ 65535 ∧ s.su.clock.secs ≤ 86399

/-- Every settings record the part can work from: those in use, the image, and the copy being written. -/
def State.settingsHeld (s : State) : List Settings := s.settings :: s.st.image :: s.st.saving.toList

/-- R134: every ceiling and target lies within its stage's floor and top. -/
def State.ceilingsWithin (s : State) : Prop :=
  ∀ t, (s.settings.stages.get t).floor ≤ (s.gu.grants.get t).c ∧ (s.gu.grants.get t).c ≤ (s.settings.stages.get t).top ∧
    (s.settings.stages.get t).floor ≤ (s.gu.grants.get t).t ∧ (s.gu.grants.get t).t ≤ (s.settings.stages.get t).top

/-- R114: in every stage record the top is at least the floor plus 100. -/
def Settings.topsAboveFloors (g : Settings) : Prop := ∀ t, (g.stages.get t).floor + 100 ≤ (g.stages.get t).top

/-- R114: the shares of the enabled stages sum to no more than 256. -/
def Settings.sharesBounded (g : Settings) : Prop := enabledShares g.stages (g.stages.renew fun _ q => q.share) ≤ 256

/-- R25: no two channels hold one binding other than UNUSED. -/
def Settings.bindingsDistinct (g : Settings) : Prop :=
  ∀ c d, (g.channelMap.get c).binding = (g.channelMap.get d).binding → (g.channelMap.get c).binding ≠ .unused → c = d

/-- R67: the active schedule holds 1 to 16 periods with strictly ascending start minutes. -/
def Settings.scheduleLawful (g : Settings) : Prop :=
  1 ≤ g.schedule.length ∧ g.schedule.length ≤ 16 ∧ ascending g.schedule = true

/-- R186: slot 0 is AUTHORITY and authorized, no two slots are PRODUCTION for one stage, an UNASSIGNED slot is never
authorized. -/
def Settings.stationsLawful (g : Settings) : Prop :=
  (g.stations.get 0).role = .authority ∧ (g.stations.get 0).authorized = true ∧
  (∀ j k t, (g.stations.get j).role = .production t → (g.stations.get k).role = .production t → j = k) ∧
  (∀ k, (g.stations.get k).role = .unassigned → (g.stations.get k).authorized = false)

/-- Every settings record the part can work from has a property. -/
def State.settingsAll (s : State) (P : Settings → Prop) : Prop := ∀ g ∈ s.settingsHeld, P g

/-- R172: a pending set holds each class at most once, highest priority first; an unauthorized slot's set is empty. -/
def State.pendingSetsLawful (s : State) : Prop :=
  ∀ k, ((s.nu.get k).pending.map Notice.rank).Pairwise (· < ·) ∧
    ((s.settings.stations.get k).authorized = false → (s.nu.get k).pending = [])

/-- R94: no session is open while the survey is in QUIET or SIGNAL. -/
def State.noSessionInSurvey (s : State) : Prop := s.cs.running = true → s.su.session = none

/-- R143, R147: the compliance state of a grant record with its timers, its applied value and the stage's enabled flag. -/
def Grant.lawful (g : Grant) (st : StageSettings) : Prop :=
  match g.compliance with
  | .disabled => st.enabled = false ∧ g.complianceTimer = none ∧ g.holdTimer = none
  | .tracking => st.enabled = true ∧ g.within st.top = true ∧ g.complianceTimer = none ∧ g.holdTimer = none
  | .pending => st.enabled = true ∧ g.within st.top = false ∧ g.complianceTimer.isSome ∧ g.holdTimer = none
  | .enforced => st.enabled = true ∧ g.complianceTimer = none ∧ g.holdTimer = none
  | .releasing => st.enabled = true ∧ g.holdTimer.isSome ∧ (g.complianceTimer = none ↔ g.within st.top = true)

/-- R143: every grant record is lawful. -/
def State.complianceLawful (s : State) : Prop := ∀ t, (s.gu.grants.get t).lawful (s.settings.stages.get t)

/-- R44: the bucket is a number in [−C_F, C_F] while a fast limit is in force, FULL while none is. -/
def Bucket.bounded (b : Bucket) (lf : Option Nat) (depth : Nat) : Prop :=
  match b, lf with
  | .full, none => True
  | .amount b, some l => -(fullBucket l depth : Int) ≤ b ∧ b ≤ (fullBucket l depth : Int)
  | _, _ => False

/-- R44: every bucket is bounded by the limit in force for its point's zone. -/
def State.bucketsBounded (s : State) : Prop :=
  ∀ k, (s.ei.points.get k).bucket.bounded (s.limitsOf k).lf s.settings.timing.depth

/-- R42, R49, R51, R57, R135: the session frame count is at least 1 while a session is open and 0 while none is; the session
tier is absent and CLEAR while none is; the grant records mirror the session. -/
def State.sessionMirrored (s : State) : Prop :=
  (s.sessionIsOpen = true ↔ 1 ≤ s.ei.sessionFrames) ∧
  (s.sessionIsOpen = false → ∀ k, (s.ei.points.get k).sessionLimit = none ∧ (s.ei.points.get k).sessionEp = none) ∧
  ∀ t, (s.gu.grants.get t).session = s.sessionIsOpen

/-- The slot on which the grant stands, for a turn or parked. -/
def Link.holder : Link → Option SlotId
  | .free k => k
  | .turn k _ => some k
  | .responding k => some k
  | .clearing => none

/-- R180, R183: slot 0 is not BROKEN, and the grant stands on no BROKEN slot. -/
def State.grantLawful (s : State) : Prop :=
  (s.la.slots.get 0).broken = false ∧ ∀ k, s.la.link.holder = some k → (s.la.slots.get k).broken = false

/-! ### A request that is served -/

/-- The link after a good frame of slot `k` was taken: its turn, the miss run cleared (R179); the turn of a parked slot begins
with its frame (R183). -/
def State.taken (s : State) (k : SlotId) : Option State :=
  match frameTurn s with
  | none => none
  | some (j, u) => if j = k then some (u.setArb k { u.la.slots.get k with missRun := 0 }) else none

/-- Slot `k` sends request `r` with these parameters in its turn and may make it: the part has supply, the slot is authorized,
its role permits the request, the length is one of its forms. `u` is the state as the request reaches its owner (R188). -/
def State.admits (s : State) (k : SlotId) (r : Request) (params : List Byte) (u : State) : Prop :=
  s.powered = true ∧ s.taken k = some u ∧ (s.settings.stations.get k).authorized = true ∧
    permitted (s.settings.stations.get k).role r params = true ∧ r.forms.contains params.length = true

/-- The owner of request `r` reads these parameters as values in their ranges (R188, step 5, R198, R202). -/
def Request.reads (r : Request) (params : List Byte) : Bool :=
  match r with
  | .statusRead | .sessionClose | .surveyAbort | .surveyAccept | .surveyDiscard | .surveyRead | .schedClear | .schedCommit
  | .storeSave | .reset => true
  | .levelsRead => (readLevelsPart params).isSome
  | .noticeEnable => (readEnable params).isSome
  | .grantQuery | .couplingRead | .holdForce | .holdUnforce => (readIndex 4 params).isSome
  | .grantAck => (readAck params).isSome
  | .sessionOpen => (readEndMinute params).isSome
  | .pointWrite => (readPoint params).isSome
  | .stageWrite => (readStage params).isSome
  | .channelBind => (readBind params).isSome
  | .shareWrite => (readShares params).isSome
  | .couplingWrite => (readCoupling params).isSome
  | .surveyStart => (readSurvey params).isSome
  | .schedRead => (readSchedList params).isSome
  | .schedWrite => (readPeriod params).isSome
  | .sessionLimitWrite => (readAllowance params).isSome
  | .fallbackWrite => (readFallback params).isSome
  | .timeSet => (readTime params).isSome
  | .roleWrite => (readStation params).isSome
  | .dispatchWrite => (readDispatch params).isSome
  | .recordRead => (readRecordSpan params).isSome
  | .recordRelease => (readCount params).isSome
  | .arbWrite => (readArbiter params).isSome
  | .arbClear => (readIndex 8 params).isSome
  | .timingWrite => (readTiming params).isSome

/-- R198, R203: two bytes hold a value, the high byte first. -/
def twoBytes (bs : List Byte) (n : Nat) : Prop := ∃ high low : Byte, bs = [high, low] ∧ n = high.toNat * 2 ^ 8 + low.toNat

/-- R203: the six bytes of a zone entry spell these limits: the values of the limits whose presence bits are set. The value bytes
of an absent limit are ignored; so are bits 2 to 7 of the presence byte (assumption 35). -/
def ZoneLimits.spelledBy (z : ZoneLimits) (bs : List Byte) : Prop :=
  ∃ presence n : Byte, ∃ lf lw : Nat, bs.length = 6 ∧ bs[0]? = some presence ∧ bs[5]? = some n ∧
    twoBytes ((bs.drop 1).take 2) lf ∧ twoBytes ((bs.drop 3).take 2) lw ∧
    z.lf = (if presence.getLsbD 0 then some lf else none) ∧
    z.window = if presence.getLsbD 1 then some ⟨lw, n.toNat⟩ else none

/-- R203: the bytes spell the limits of four zones, one entry after another. -/
def zonesSpelledBy (zones : Bank 4 ZoneLimits) (bs : List Byte) : Prop :=
  bs.length = 24 ∧ ∀ z : ZoneId, (zones.get z).spelledBy ((bs.drop (6 * z.1)).take 6)

/-- R203: the bytes spell a period record. -/
def Period.spelledBy (q : Period) (bs : List Byte) : Prop :=
  ∃ ramp : Byte, bs.length = 28 ∧ twoBytes (bs.take 2) q.start ∧ bs[3]? = some ramp ∧ q.ramp = ramp.toNat ∧
    bs[2]? = some (match q.kind with | .opened => (0 : Byte) | .stop => 1) ∧ zonesSpelledBy q.zones (bs.drop 4)

/-- R203: the bytes spell a session allowance: for each zone a presence byte, 0 or 1 (R198), and LS, whose bytes are ignored where
it is absent; then the latest end minute. -/
def Allowance.spelledBy (a : Allowance) (bs : List Byte) : Prop :=
  bs.length = 14 ∧ twoBytes (bs.drop 12) a.latestEnd ∧
  ∀ z : ZoneId, ∃ presence : Byte, ∃ ls : Nat, bs[3 * z.1]? = some presence ∧ twoBytes ((bs.drop (3 * z.1 + 1)).take 2) ls ∧
    ((presence = 0 ∧ a.ls.get z = none) ∨ (presence = 1 ∧ a.ls.get z = some ls))

/-- The answer OK without a payload. -/
def okEmpty : Response := ⟨.ok, []⟩

/-! ### Records of one event -/

/-- The ring after several offers of one event, in order (R163). -/
def RecordRing.offers (q : RecordRing) (stamp : Time) (bs : List RecordBody) : RecordRing :=
  bs.foldl (fun q b => q.offer stamp b) q

/-- The notice unit after several postings, in order (R172): no enable changes, and a notice leaves a set only as one of its class
replaces it. -/
def State.posted (s : State) (notices : List Notice) : Bank 8 NoticeSlot :=
  (notices.foldl (fun t n => post n t) s).nu

/-- R168: the RING notice of offers that take the held count from below the attention threshold to it; a held count grows by one
at a time, so the count it gives is the threshold. -/
def State.ringNotice (s : State) (after : RecordRing) : List Notice :=
  let threshold := s.settings.timing.threshold
  if s.rr.list.length < threshold ∧ threshold ≤ after.list.length then [.ring threshold] else []

/-- From `s` to `t` exactly these records are offered, in order, with the clock's time, and exactly these notices are posted, in
order, and RING where the offers cross the threshold (R163, R168, R172): nothing else of the ring, of a pending set or of an
attention enable changes (R175 to R177). -/
def State.tells (s t : State) (bodies : List RecordBody) (notices : List Notice) : Prop :=
  t.rr = s.rr.offers s.su.clock bodies ∧ t.nu = s.posted (notices ++ s.ringNotice t.rr)

/-- R52, R129, R170: the notice that goes with a record of a boundary, where one does. -/
def RecordBody.boundaryNotice : RecordBody → Option Notice
  | .exceedanceStart k tier _ _ => some (.exceed k tier)
  | .curfewApproach minute => some (.curfewApproach minute)
  | _ => none

/-- R177: the command starts the notice unit afresh at `s`. A part that loses its supply keeps no pending set and no enable
(assumption 19). -/
def State.restartsNotices (s : State) (c : Instr) : Prop :=
  c = .powerUp ∨ c = .lossOfPower ∨ ((c = .responseEnd ∨ c = .commandReset) ∧ s.la.resetDue = true)

/-! ### Limits, buckets and episodes (R42, R44, R53, R70 to R72) -/

/-- R44: a bucket adjusted to the fast limit `lf` in force and the bucket depth. -/
def Bucket.fittedTo (b : Bucket) (lf : Option Nat) (depth : Nat) : Bucket :=
  match lf with
  | none => .full
  | some l =>
    let full : Int := p l * depth
    .amount (match b with
      | .full => full
      | .amount x => max (-full) (min full x))

/-- R53: the end record of an episode of point `k`, none where there is no episode. -/
def endRecord (k : PointId) (tier : Tier) (e : Option Episode) : List RecordBody :=
  (e.map fun q => RecordBody.exceedanceEnd k tier (q.peak.getD q.start) (q.frames / 10)).toList

/-- R42: the end records of the tiers that a change of a point's limits from `was` to `now` makes absent. -/
def absentEnds (k : PointId) (x : PointExposure) (was now : ZoneLimits) : List RecordBody :=
  if was = now then []
  else
    (if now.lf = none then endRecord k .fast x.fastEp else []) ++ (if now.window = none then endRecord k .window x.windowEp else [])

/-- R44, R71: point `y` is point `x` after its limits went from `was` to `now`. -/
def PointExposure.relimitedTo (x y : PointExposure) (was now : ZoneLimits) (depth : Nat) : Prop :=
  y = { x with
    bucket := if was.lf = now.lf then x.bucket else x.bucket.fittedTo now.lf depth
    fastEp := if was ≠ now ∧ now.lf = none then none else x.fastEp
    windowEp := if was ≠ now ∧ now.window = none then none else x.windowEp }

/-- R70 to R72: `t` is the state `s` after a recomputation: the limits in force of its clock and settings, every point fitted to
those of its zone, an end record for each episode of a tier that became absent, and a CURFEW record and notice of a STOP start.
The ends stand in point and tier order (assumption 15), before the CURFEW record or after it (assumption 6). -/
def State.recomputedTo (s t : State) : Prop :=
  let was := fun k => s.su.limits.zones.get (s.settings.points.get k).zone
  let now := fun k => t.su.limits.zones.get (s.settings.points.get k).zone
  let ends := allPoints.flatMap fun k => absentEnds k (s.ei.points.get k) (was k) (now k)
  let stop := if s.su.limits.stop = none then t.su.limits.stop.toList else []
  t.su = { s.su with limits := s.newLimits } ∧
  t.ei = { s.ei with points := t.ei.points } ∧
  (∀ k, (s.ei.points.get k).relimitedTo (t.ei.points.get k) (was k) (now k) s.settings.timing.depth) ∧
  (s.tells t (ends ++ stop.map .curfewStop) (stop.map .curfewStop) ∨ s.tells t (stop.map .curfewStop ++ ends) (stop.map .curfewStop)) ∧
  t = { s with su := t.su, ei := t.ei, rr := t.rr, nu := t.nu, draws := t.draws }

/-- R78: the reason of the first of the six checks that a pending schedule fails, none where it fails none. -/
def scheduleVerdict (ps : List Period) (a : Allowance) (reason : Option SchedReason) : Prop :=
  let off := fun l : Option Nat => ∃ x, l = some x ∧ (x < 3000 ∨ 13000 < x)
  let count := ps = []
  let order := ∃ (i : Nat) (x y : Period), ps[i]? = some x ∧ ps[i + 1]? = some y ∧ y.start ≤ x.start
  let range := (∃ q ∈ ps, 1439 < q.start ∨ ∃ z, off (q.zones.get z).lf ∨ off ((q.zones.get z).window.map (·.lw))) ∨ ∃ z, off (a.ls.get z)
  let window := ∃ q ∈ ps, ∃ z w, (q.zones.get z).window = some w ∧ (w.n < 1 ∨ 60 < w.n)
  let ramp := ∃ q ∈ ps, 60 < q.ramp
  let sessionEnd := 1439 < a.latestEnd
  match reason with
  | some .count => count
  | some .order => ¬ count ∧ order
  | some .range => ¬ count ∧ ¬ order ∧ range
  | some .window => ¬ count ∧ ¬ order ∧ ¬ range ∧ window
  | some .ramp => ¬ count ∧ ¬ order ∧ ¬ range ∧ ¬ window ∧ ramp
  | some .sessionEnd => ¬ count ∧ ¬ order ∧ ¬ range ∧ ¬ window ∧ ¬ ramp ∧ sessionEnd
  | none => ¬ count ∧ ¬ order ∧ ¬ range ∧ ¬ window ∧ ¬ ramp ∧ ¬ sessionEnd

/-! ### Channels, sources and references (R17, R29, R31, R32) -/

/-- A channel with this binding is LIVE. -/
def State.boundLive (s : State) (b : Binding) : Prop := ∃ c, (s.settings.channelMap.get c).binding = b ∧ (s.sp.get c).state = .live

/-- R29: the source of point `k` is the first of PRIMARY, STANDBY, BLIND that has its channel LIVE, DISABLED where it is
disabled. -/
def State.sourceFollows (s : State) (k : PointId) : Prop :=
  let x := (s.pm.points.get k).source
  let on := (s.settings.points.get k).enabled = true
  (x = .disabled ↔ ¬ on) ∧ (x = .primary ↔ on ∧ s.boundLive (.primary k)) ∧
  (x = .standby ↔ on ∧ ¬ s.boundLive (.primary k) ∧ s.boundLive (.standby k))

/-- R17, R29, R32: a channel is UNBOUND where it is bound UNUSED, every source is the one its channels give, and a reference sees
while its channel is LIVE. -/
def State.sourcesFollow (s : State) : Prop :=
  (∀ c, (s.sp.get c).state = .unbound ↔ (s.settings.channelMap.get c).binding = .unused) ∧
  (∀ k, s.sourceFollows k) ∧
  ∀ t, (s.pm.refs.get t).seeing = true ↔ s.boundLive (.reference t)

/-- The points among `ks` whose source differs between two states. -/
def State.sourcesChanged (s t : State) (ks : List PointId) : List PointId :=
  ks.filter fun k => (t.pm.points.get k).source ≠ (s.pm.points.get k).source

/-- The records of the points among `ks` whose source changed (R31). -/
def State.sourceRecords (s t : State) (ks : List PointId) : List RecordBody :=
  (s.sourcesChanged t ks).map fun k => .sensorPoint k (t.pm.points.get k).source

/-- The map's own state changed in nothing but the sources of the points `ks` and what the references of the stages `ts` see. -/
def PointMap.differsIn (a b : PointMap) (ks : List PointId) (ts : List StageId) : Prop :=
  (∀ k, b.points.get k = { a.points.get k with source := (b.points.get k).source }) ∧
  (∀ k, k ∉ ks → b.points.get k = a.points.get k) ∧
  (∀ t, b.refs.get t = { a.refs.get t with seeing := (b.refs.get t).seeing }) ∧
  ∀ t, t ∉ ts → b.refs.get t = a.refs.get t

/-- The survey of `s` abandoned for a lost reference of stage `t`, where one of that stage runs (R104). -/
def State.surveyWithout (s : State) (t : StageId) : Survey :=
  if s.cs.running = true ∧ s.cs.stage = t then { s.cs with state := .aborted, reason := some .channelLost } else s.cs

/-- Channel `c` enters the state of `y`: its record becomes `y`, the records given are offered, the map follows the channel by its
binding, and a survey whose reference is lost is abandoned; nothing else changes (R22, R29, R31, R32, R104). -/
def State.entered (s t : State) (c : ChannelId) (y : Channel) (records : List RecordBody) : Prop :=
  let b := (s.settings.channelMap.get c).binding
  let changed := s.sourcesChanged t b.points
  t.sp = s.sp.set c y ∧
  s.pm.differsIn t.pm b.points b.stages ∧
  s.tells t (records ++ s.sourceRecords t b.points)
    ((if records = [] then [] else [.sensorChannel c]) ++ changed.map .sensorPoint ++
      if t.cs = s.cs then [] else [.survey (some .channelLost) s.cs.stage]) ∧
  t.cs = (match b with
    | .reference u => if y.state = .live then s.cs else s.surveyWithout u
    | _ => s.cs) ∧
  t = { s with sp := t.sp, pm := t.pm, cs := t.cs, rr := t.rr, nu := t.nu }

/-! ### What a reset leaves (R34, R35, R106, R133, R158, R177) -/

/-- R34: every channel as its binding gives it, its receiver waiting for an idle gap (R15). -/
def State.channelsStarted (s : State) : Prop :=
  ∀ c, let e := s.settings.channelMap.get c
    let x := s.sp.get c
    x.lastSeq = none ∧ x.goodCount = 0 ∧ x.badRun = 0 ∧ x.la = 0 ∧ x.lc = 0 ∧ x.slot = .empty ∧ x.receiving = false ∧
    (e.binding = .unused → x.state = .unbound ∧ x.accepted = 0 ∧ x.silence = false) ∧
    (e.binding ≠ .unused → x.state = .settling ∧ x.accepted = e.expected ∧ x.silence = true)

/-- R35: every enabled point BLIND, every other DISABLED, each holding its substitute level's power; every reference blind with a
held power of 1 pu. -/
def State.mapStarted (s : State) : Prop :=
  (∀ k, let q := s.settings.points.get k
    s.pm.points.get k = ⟨if q.enabled = true then .blind else .disabled, p q.substitute, p q.substitute⟩) ∧
  ∀ t, s.pm.refs.get t = ⟨false, 1⟩

/-- R106: the survey IDLE with reason none, counts and sums 0, no result. -/
def Survey.started (v : Survey) : Prop :=
  v.state = .idle ∧ v.reason = none ∧ v.results = none ∧ v.phaseSecs = 0 ∧ v.excluded = 0 ∧ v.strong = 0 ∧
  v.refEnergy = 0 ∧ v.refFrames = 0 ∧ ∀ k, v.quiet.get k = ⟨0, 0, 0⟩ ∧ v.signal.get k = ⟨0, 0, 0⟩

/-- R133: every enabled stage PLAYING with count 0, the approach flag clear, no figures; no pass in flight (R111). A snapshot that
still waits for the engine is none of these (assumption 34). -/
def State.engineStarted (s : State) : Prop :=
  (∀ t, s.ae.activity.get t = if (s.settings.stages.get t).enabled = true then some ⟨false, 0⟩ else none) ∧
  s.ae.approach = none ∧ s.ae.figures = none ∧ s.ae.pass = none

/-- R158: every grant record at its floor, CLOSED, with no applied value; ENFORCED with cause POWER_UP where the stage is enabled,
DISABLED with cause none where it is not. -/
def State.grantsStarted (s : State) : Prop :=
  (∀ t, let q := s.settings.stages.get t
    let g := s.gu.grants.get t
    g.c = q.floor ∧ g.t = q.floor ∧ g.kind = .closed ∧ g.applied = none ∧ g.complianceTimer = none ∧ g.holdTimer = none ∧
    g.overrun = 0 ∧ g.forced = false ∧ g.session = false ∧ g.last = .blind ∧
    (q.enabled = true → g.compliance = .enforced ∧ g.cause = some .powerUp) ∧ (q.enabled = false → g.compliance = .disabled ∧ g.cause = none)) ∧
  s.gu.approach = false ∧ s.gu.curfew = ⟨false, none⟩

/-- Every block but the integrator, the schedule unit and the arbiter as each reset leaves it, and every attention enable set.
What the pending sets hold is stated beside it. -/
def State.blocksStarted (s : State) : Prop :=
  s.channelsStarted ∧ s.mapStarted ∧ s.cs.started ∧ s.engineStarted ∧ s.grantsStarted ∧ ∀ k, (s.nu.get k).enable = true

/-- R168, R172, R177: the pending sets are what these postings, in order, and RING where its crossing was judged, put into empty
ones: of each class the last notice that reaches the slot. -/
def State.holdsOnly (t : State) (notices : List Notice) (ring : Option Nat) : Prop :=
  ∀ k n, n ∈ (t.nu.get k).pending ↔ t.settings.reaches n k = true ∧
    ((∃ held, ring = some held ∧ n = .ring held) ∨
      ∃ before after, notices = before ++ n :: after ∧ ∀ m ∈ after, m.cls = n.cls → t.settings.reaches m k = false)

/-! ### The survey's seconds (R97 to R103) -/

/-- The stage's second is seeing, at level `l` or above. -/
def Snapshot.atLeast (snap : Snapshot) (u : StageId) (l : Nat) : Prop := ∃ x, (snap.stages.get u).second = .seeing x ∧ l ≤ x

/-- R97: the second is excluded from a survey of stage `u`: its own second is blind, or that of another enabled stage is blind
or at or above that stage's idle threshold. -/
def Snapshot.excludedFrom (snap : Snapshot) (stages : Bank 4 StageSettings) (u : StageId) : Prop :=
  (snap.stages.get u).second = .blind ∨
  ∃ v, v ≠ u ∧ (stages.get v).enabled = true ∧ ((snap.stages.get v).second = .blind ∨ snap.atLeast v (stages.get v).idle)

/-- R99: every point of an included second is counted into the sums of the phase, for itself alone. -/
def Snapshot.countedInto (snap : Snapshot) (old new : Bank 8 PhaseSum) : Prop :=
  ∀ k, let q := snap.points.get k
    let x := old.get k
    new.get k = if q.enabled = true ∧ q.blind = 0 then ⟨x.energy + q.energy, x.frames + 10, x.unusable⟩
      else ⟨x.energy, x.frames, x.unusable + 1⟩

/-- R103: the result of point `k` at completion. -/
def Survey.resultIs (v : Survey) (k : PointId) (r : PointResult) : Prop :=
  let q := v.quiet.get k
  let g := v.signal.get k
  let b := q.energy / q.frames
  let sig := g.energy / g.frames
  let unusable := v.d < 2 * q.unusable ∨ v.d < 2 * g.unusable ∨ q.frames = 0 ∨ g.frames = 0
  (unusable → r = ⟨none, none, none⟩) ∧
  (¬ unusable → r.lvB = some (lv b) ∧ r.lvS = some (lv sig) ∧
    (2 * b ≤ sig → 2 ≤ sig →
      r.code = some (max (-9000) (min 0 ((lv (sig - b : Nat) : Int) - lv (v.refEnergy / v.refFrames : Nat))))) ∧
    (¬ (2 * b ≤ sig ∧ 2 ≤ sig) → r.code = none))

/-- R96 to R103: survey `w` is survey `v` after it has taken a snapshot: one second of QUIET or SIGNAL, with the phase's end. -/
def Survey.counts (v : Survey) (stages : Bank 4 StageSettings) (snap : Snapshot) (w : Survey) : Prop :=
  let idle := (stages.get v.stage).idle
  let excluded := snap.excludedFrom stages v.stage
  let last := v.d ≤ v.phaseSecs + 1
  (v.state ≠ .quiet → v.state ≠ .signal → w = v) ∧
  (v.state = .quiet → snap.atLeast v.stage idle → w = { v with state := .aborted, reason := some .notQuiet }) ∧
  (v.state = .quiet → ¬ snap.atLeast v.stage idle →
    w = { v with state := w.state, phaseSecs := w.phaseSecs, strong := w.strong, excluded := w.excluded, quiet := w.quiet } ∧
    (excluded → w.excluded = v.excluded + 1 ∧ w.quiet = v.quiet) ∧
    (¬ excluded → w.excluded = v.excluded ∧ snap.countedInto v.quiet w.quiet) ∧
    (last → w.state = .signal ∧ w.phaseSecs = 0 ∧ w.strong = 0) ∧
    (¬ last → w.state = .quiet ∧ w.phaseSecs = v.phaseSecs + 1 ∧ w.strong = v.strong)) ∧
  (v.state = .signal →
    w = { v with
      state := w.state, phaseSecs := v.phaseSecs + 1, strong := w.strong, excluded := w.excluded, refEnergy := w.refEnergy
      refFrames := w.refFrames, signal := w.signal, reason := w.reason, results := w.results } ∧
    (snap.atLeast v.stage (idle + 2000) → w.strong = v.strong + 1) ∧
    (¬ snap.atLeast v.stage (idle + 2000) → w.strong = v.strong) ∧
    (excluded → w.excluded = v.excluded + 1 ∧ w.refEnergy = v.refEnergy ∧ w.refFrames = v.refFrames ∧ w.signal = v.signal) ∧
    (¬ excluded → w.excluded = v.excluded ∧ w.refEnergy = v.refEnergy + (snap.stages.get v.stage).energy ∧
      w.refFrames = v.refFrames + 10 ∧ snap.countedInto v.signal w.signal) ∧
    (¬ last → w.state = .signal ∧ w.reason = v.reason ∧ w.results = v.results) ∧
    (last → v.d < 2 * w.excluded → w.state = .aborted ∧ w.reason = some .interference ∧ w.results = v.results) ∧
    (last → 2 * w.excluded ≤ v.d → 10 * w.strong < 9 * v.d →
      w.state = .aborted ∧ w.reason = some .weakSignal ∧ w.results = v.results) ∧
    (last → 2 * w.excluded ≤ v.d → 9 * v.d ≤ 10 * w.strong → w.state = .done ∧ w.reason = v.reason ∧
      ∃ r, w.results = some r ∧ r.lvR = lv (w.refEnergy / w.refFrames : Nat) ∧ ∀ k, w.resultIs k (r.points.get k)))

/-! ### The start of a pass (R73, R110, R124, R129) -/

/-- R73: the curfew information as the clock, the limits in force and the active schedule stand. -/
def State.curfewIs (s : State) (c : CurfewInfo) : Prop :=
  let stop := s.su.limits.stop ≠ none
  let ahead := fun (q : Period) (t : Nat) => q ∈ s.settings.schedule ∧ q.kind = .stop ∧
    t = (q.start * 60 + 86400 - s.su.clock.secs) % 86400 ∧ 1 ≤ t ∧ t ≤ 3600
  (c.stop = true ↔ s.su.clock.valid = true ∧ stop) ∧
  (s.su.clock.valid = false ∨ stop → c.next = none) ∧
  (s.su.clock.valid = true → ¬ stop → (c.next = none ↔ ∀ q t, ¬ ahead q t) ∧
    ∀ n, c.next = some n → (∃ q, ahead q n.t ∧ n.ramp = q.ramp ∧ n.minute = q.start) ∧ ∀ q t, ahead q t → n.t ≤ t)

/-- R101: the survey target that a survey publishes. -/
def Survey.publishes (v : Survey) (target : Option (StageId × Nat)) : Prop :=
  (v.state = .signal → target = some (v.stage, v.level)) ∧ (v.state ≠ .signal → target = none)

/-- R110, R124, R129: the engine `old` takes the snapshot, the survey target and every other input as it stands in `s`, and becomes
`new`, its pass in flight. -/
def State.takes (s : State) (old : Engine) (target : Option (StageId × Nat)) (snap : Snapshot) (new : Engine) : Prop :=
  ∃ i : PassInputs, new.pass = some i ∧ new.handed = none ∧ new.figures = old.figures ∧ new.activity = i.activity ∧
    i.snap = snap ∧ i.target = target ∧ i.zones = s.su.limits.zones ∧ i.session = s.su.session ∧ s.curfewIs i.curfew ∧
    i.coupling = s.settings.coupling ∧ i.stages = s.settings.stages ∧ i.depth = s.settings.timing.depth ∧
    i.horizon = s.settings.timing.horizon ∧
    (∀ u, i.ceilings.get u = (s.gu.grants.get u).c ∧ i.dropped.get u = false) ∧
    (∀ u, let q := s.settings.stages.get u
      let a := (old.activity.get u).getD ⟨false, 0⟩
      (q.enabled = false → i.activity.get u = none) ∧
      (q.enabled = true →
        ((snap.stages.get u).second = .blind ∨ snap.atLeast u q.idle → i.activity.get u = some ⟨false, 0⟩) ∧
        (∀ l, (snap.stages.get u).second = .seeing l → l < q.idle →
          (a.idle = true → i.activity.get u = some ⟨true, 10⟩) ∧
          (a.idle = false → i.activity.get u = some ⟨decide (10 ≤ a.quiet + 1), a.quiet + 1⟩)))) ∧
    (∀ m, new.approach = some m ↔ ∃ n, i.curfew.next = some n ∧ 1 ≤ n.ramp ∧ n.t ≤ n.ramp * 60 ∧ m = n.minute) ∧
    (i.approach = true ↔ new.approach ≠ none)

/-- R110, R129: `t` is the state `s` after the engine takes the snapshot: the pass is in flight, and an approach newly open, or
open for another STOP minute, has its CURFEW record and notice. -/
def State.passStarts (s t : State) (snap : Snapshot) : Prop :=
  let news := if t.ae.approach = s.ae.approach then [] else t.ae.approach.toList
  (∃ target, s.cs.publishes target ∧ s.takes s.ae target snap t.ae) ∧
  s.tells t (news.map .curfewApproach) (news.map .curfewApproach) ∧
  t = { s with ae := t.ae, rr := t.rr, nu := t.nu }

/-! ### Arbitration (R182) -/

/-- Slot `k` would be granted a free link: its line is asserted and it is not BROKEN. -/
def Arbiter.waits (a : Arbiter) (k : SlotId) : Prop := (a.slots.get k).line = true ∧ (a.slots.get k).broken = false

/-- How many level-2 slots stand between the pointer and slot `k` in ascending order, wrapping from 7 to 1. -/
def rotationDistance (pointer k : SlotId) : Nat := (k.1 + 6 - pointer.1) % 7

/-- Slot `j` is the one the rotation in two levels grants (R182). -/
def Arbiter.rotationNames (a : Arbiter) (j : SlotId) : Prop :=
  a.waits j ∧
  (j = 0 → a.level1Zero = false ∨ ∀ i, i ≠ 0 → ¬ a.waits i) ∧
  (j ≠ 0 → (a.level1Zero = true ∨ ¬ a.waits 0) ∧
    ∀ i, i ≠ 0 → a.waits i → rotationDistance a.level2 j ≤ rotationDistance a.level2 i)

/-- The slot a free link is parked on: the park mode's target, the default slot where that is BROKEN, none where both are
(R183). -/
def Arbiter.parksOn (a : Arbiter) (g : ArbiterSettings) (x : Option SlotId) : Prop :=
  let target := match g.park with
    | .last => a.lastGranted.getD g.defaultSlot
    | .default => g.defaultSlot
  ((a.slots.get target).broken = false → x = some target) ∧
  ((a.slots.get target).broken = true → (a.slots.get g.defaultSlot).broken = false → x = some g.defaultSlot) ∧
  ((a.slots.get target).broken = true → (a.slots.get g.defaultSlot).broken = true → x = none)

/-- `b` is the arbiter `a` after the free link was arbitrated: the slot the rotation names is granted and the pointers move to
it, or, where no slot waits, the link is parked (R182, R183). -/
def Arbiter.arbitratedTo (a : Arbiter) (g : ArbiterSettings) (b : Arbiter) : Prop :=
  ((∃ k, a.waits k) → ∃ j, a.rotationNames j ∧
    b = { a with
      link := .turn j false, level1Zero := j = 0, level2 := if j = 0 then a.level2 else j, lastGranted := some j }) ∧
  ((∀ k, ¬ a.waits k) → ∃ x, a.parksOn g x ∧ b = { a with link := .free x })

/-- R182, R185: the arbiter `b` is that of a reset with the lines of `a`: no slot BROKEN, no miss run, the pointers as R182 sets
them; then arbitrated. -/
def Arbiter.restartedTo (a : Arbiter) (g : ArbiterSettings) (b : Arbiter) : Prop :=
  ∃ m : Arbiter, m.arbitratedTo g b ∧ (∀ k, m.slots.get k = ⟨(a.slots.get k).line, false, 0⟩) ∧
    m.level1Zero = false ∧ m.level2 = 7 ∧ m.lastGranted = none ∧ m.resetDue = false

/-! ### Misses (R179, R180) -/

/-- `t` is the state `u` after a miss of slot `k`, but for where the link goes: the miss run, the isolation with its record, and
nothing else (R179, R180). -/
def State.missedTo (u t : State) (k : SlotId) : Prop :=
  let x := u.la.slots.get k
  let y := t.la.slots.get k
  y.missRun = min 255 (x.missRun + 1) ∧ y.line = x.line ∧
  (y.broken = true ↔ x.broken = true ∨ (u.settings.arbiter.isolation = true ∧ k ≠ 0 ∧ 3 ≤ y.missRun)) ∧
  (∀ j, j ≠ k → t.la.slots.get j = u.la.slots.get j) ∧
  u.tells t (if y.broken = x.broken then [] else [.access k .broken 0])
    (if y.broken = x.broken then [] else [.access k .broken]) ∧
  t.la = { u.la with slots := t.la.slots } ∧
  t = { u with la := t.la, rr := t.rr, nu := t.nu }

/-! ### The records of a boundary (R39, R43, R45, R47, R50 to R54, R59) -/

/-- R52: an episode after one more boundary. -/
def Episode.later (q : Episode) : Episode := { q with frames := min 4294967295 (q.frames + 1) }

/-- R39, R49, R50: a point's session accumulator after the frame of the next boundary. -/
def State.nextSessionEnergy (s : State) (k : PointId) : Nat :=
  (s.ei.points.get k).eS + if s.sessionIsOpen = true then (s.framePowers k).a else 0

/-- R43, R45, R50, R54: the records of the frame of point `k` at the next boundary, the fast tier's before the session tier's. -/
def State.frameRecords (s : State) (k : PointId) : List RecordBody :=
  let x := s.ei.points.get k
  let e := (s.framePowers k).a
  let fast := match (s.limitsOf k).lf, x.bucket with
    | some lf, .amount b =>
      let full : Int := p lf * s.settings.timing.depth
      let b' := max (-full) (min full (b + p lf) - e)
      match x.fastEp with
      | none => if b' < 0 then [RecordBody.exceedanceStart k .fast (lv e) lf] else []
      | some q => if full / 8 ≤ b' then endRecord k .fast (some q.later) else []
    | _, _ => []
  let session := match x.sessionLimit, x.sessionEp with
    | some q, none => if q.total < s.nextSessionEnergy k then [RecordBody.exceedanceStart k .session (lv e) q.ls] else []
    | _, _ => []
  if (s.settings.points.get k).enabled = true then fast ++ session else []

/-- R50, R52: the episode of a point's session tier after the frame of the next boundary, before a session's end at it. -/
def State.sessionEpisode (s : State) (k : PointId) : Option Episode :=
  let x := s.ei.points.get k
  if (s.settings.points.get k).enabled = true then
    match x.sessionEp, x.sessionLimit with
    | some q, _ => some q.later
    | none, some q => if q.total < s.nextSessionEnergy k then some ⟨lv (s.framePowers k).a, none, 0⟩ else none
    | none, none => none
  else x.sessionEp

/-- R51, R53, R85: the records of the session's end at the next boundary: the ends of the open session tiers, in point order,
then the close. -/
def State.closeRecords (s : State) (q : Session) : List RecordBody :=
  (allPoints.flatMap fun k => endRecord k .session (s.sessionEpisode k)) ++ [.sessionClosed q.slot q.fS .ended]

/-- R47: the window Leq over the newest `n` bins of a point. -/
def PointExposure.leq (y : PointExposure) (n : Nat) : Nat := lv ((y.ring.cells.toList.drop (60 - n)).sum / (n * 600) : Nat)

/-- R47, R53, R54: the record of the window tier of point `k` at a minute close that leaves `y` of it. -/
def State.windowRecords (s : State) (k : PointId) (y : PointExposure) : List RecordBody :=
  match (s.settings.points.get k).enabled, (s.limitsOf k).window with
  | true, some w =>
    match (s.ei.points.get k).windowEp with
    | none => if w.lw < y.leq w.n then [.exceedanceStart k .window (y.leq w.n) w.lw] else []
    | some q =>
      if y.leq w.n + 100 ≤ w.lw then endRecord k .window (some { q.later with peak := some (max (q.peak.getD 0) (y.leq w.n)) }) else []
  | _, _ => []

/-- R59: the interval summary of point `k` at the next boundary, where that is an interval close. -/
def State.summaryRecords (s : State) (k : PointId) : List RecordBody :=
  let x := s.ei.points.get k
  let f := s.framePowers k
  if (s.settings.points.get k).enabled = true then
    [.intervalSummary k (lv ((x.intervalA + f.a) / 3000 : Nat)) (lv ((x.intervalC + f.c) / 3000 : Nat))
      (max (x.intervalMax.getD 0) (lv ((x.secondSum + f.a) / 10 : Nat))) (min 65535 (x.intervalBlind + if f.blind = true then 1 else 0))
      (min 65535 (x.intervalOverload + f.overload)) (min 65535 (x.intervalGap + f.gap)) (s.pm.points.get k).source]
  else []

/-! ### What a pass leaves (R113, R131, R132) -/

/-- R131: the constraint that set the target of an enabled stage. -/
def PassInputs.names (i : PassInputs) (u : StageId) (named : Constraint) : Prop :=
  let g := i.stages.get u
  let target := (i.select u).1
  let kind := (i.select u).2.1
  let level := fun (c : Constrained) (l : Int) => c ∈ i.constrained ∧ ∃ x, (i.coupling.get u).get c.point = some x ∧
    let a := c.available * i.effectiveShare u / 256
    (a = 0 → l = 0) ∧ (a ≠ 0 → l = lv a - x)
  (kind = .stop → named = ⟨.stop, none, none⟩) ∧ (kind = .survey → named = ⟨.survey, none, none⟩) ∧
  (kind = .closed → named = ⟨.closed, none, none⟩) ∧ (kind = .approach → named = ⟨.curfew, none, none⟩) ∧
  (kind = .allocated → g.floor < g.top →
    (named.mark = .top ↔ target = g.top) ∧ (named.mark = .floor ↔ target = g.floor) ∧
    (named.mark = .none ↔ g.floor < target ∧ target < g.top) ∧
    ((∀ c l, ¬ level c l) → named = ⟨.top, none, none⟩) ∧
    ((∃ c l, level c l) → ∃ c l, level c l ∧ (∀ d m, level d m → l < m ∨ (l = m ∧ c.point ≤ d.point)) ∧
      named.point = some c.point ∧ named.tier = if named.mark = .top then none else some c.tier))

/-! ### What the reads answer (R80, R109, R166, R174, R191, R192, R198, R203 to R206) -/

/-- The bytes `b` number `length` and hold each of these fields from its offset on. -/
def laidOut (b : List Byte) (length : Nat) (fields : List (Nat × List Byte)) : Prop :=
  b.length = length ∧ ∀ f ∈ fields, (b.drop f.1).take f.2.length = f.2

/-- R198: an enumeration value is sent as its position in its list. -/
def coded {α : Type} [DecidableEq α] (values : List α) (x : α) : List Byte := u8 (values.idxOf x)

/-- R42, R205: the tiers F, W, S. -/
def tierValues : List Tier := [.fast, .window, .session]
/-- R28: the source states of a point. -/
def sourceValues : List Source := [.primary, .standby, .blind, .disabled]
/-- R17: the states of a channel. -/
def channelValues : List ChannelState := [.unbound, .settling, .live, .calibrating, .stale, .faulted]
/-- R204: the target kinds. -/
def kindValues : List TargetKind := [.allocated, .approach, .survey, .stop, .closed]
/-- R204: the compliance states. -/
def complianceValues : List Compliance := [.disabled, .tracking, .pending, .enforced, .releasing]
/-- R162, R204: the causes of an ENFORCEMENT record, those of an enforcement first. -/
def causeValues : List Cause := [.ackTimeout, .cannotComply, .overrun, .powerUp, .forced, .unforced, .holdMinDone, .disabled]
/-- R206: the changes of a hold line. -/
def changeValues : List LineChange := [.asserted, .released]
/-- R205, R206: the results of an adoption as its reason is sent: ADOPTED, then the reasons in the order of R78. -/
def resultValues : List (Option SchedReason) :=
  [none, some .count, some .order, some .range, some .window, some .ramp, some .sessionEnd]
/-- R205, R206: the events of an ACCESS record or notice. -/
def eventValues : List AccessEvent := [.unauthorized, .broken, .cleared]
/-- R170: the classes of notices by priority. -/
def classValues : List NoticeClass := [.hold, .exceed, .curfew, .sensor, .lowered, .schedule, .survey, .ring, .access, .clock]

/-- R151: the hold line of a stage is asserted. -/
def Grant.holds (g : Grant) : Prop := g.compliance = .enforced ∨ g.compliance = .releasing ∨ g.forced = true

/-- R204: the payload of GRANT_QUERY for stage `u`. -/
def GrantUnit.shownBy (a : GrantUnit) (u : StageId) (b : List Byte) : Prop :=
  let g := a.grants.get u
  ∃ hold : Bool, (hold = true ↔ g.holds) ∧
    laidOut b 20 [(0, u16 g.c), (2, u16 g.t), (4, coded kindValues g.kind), (5, coded complianceValues g.compliance),
      (6, optional 1 (g.cause.map (coded causeValues))), (8, optional 2 (g.applied.map u16)), (11, flag g.forced), (12, flag hold),
      (13, flag g.session), (14, flag a.approach), (15, optional 2 (a.curfew.next.map fun n => u16 n.t)), (18, flag a.curfew.stop),
      (19, [0])]

/-- R192, R205: channel `c` in the CHANNELS part. The index byte of UNUSED is the model's 0 (assumption 36). -/
def State.channelShownBy (s : State) (c : ChannelId) (b : List Byte) : Prop :=
  let x := s.sp.get c
  laidOut b 10 [
    (0, match (s.settings.channelMap.get c).binding with
      | .unused => [0, 0]
      | .primary k => u8 1 ++ u8 k.1
      | .standby k => u8 2 ++ u8 k.1
      | .reference u => u8 3 ++ u8 u.1),
    (2, coded channelValues x.state), (3, u16 x.accepted), (5, u16 x.la), (7, u16 x.lc), (9, u8 x.badRun)]

/-- R192, R205: point `k` in the POINTS part. -/
def State.pointShownBy (s : State) (k : PointId) (b : List Byte) : Prop :=
  let q := s.settings.points.get k
  let x := s.ei.points.get k
  laidOut b 25 [(0, flag q.enabled), (1, u8 q.zone.1), (2, coded sourceValues (s.pm.points.get k).source), (3, u16 x.latest),
    (5, flag x.fastEp.isSome), (6, flag x.windowEp.isSome), (7, flag x.sessionEp.isSome), (8, u64 x.eS),
    (16, match (s.ae.figures.bind (·.points)).bind (·.get k) with
      | none => List.replicate 9 0
      | some .unconstrained => 1 :: List.replicate 8 0
      | some (.constrained f) => [1, 1] ++ u16 f.lvA ++ coded tierValues f.tier ++ u16 f.lvB ++ u16 f.lvV)]

/-- R192, R205: stage `u` in the STAGES part. Its activity is that of the last completed pass, before the first one the engine's
own, 0 where the stage is disabled (assumption 24). -/
def State.stageShownBy (s : State) (u : StageId) (b : List Byte) : Prop :=
  let q := s.settings.stages.get u
  let x := s.ei.stages.get u
  let g := s.gu.grants.get u
  let entry := s.ae.figures.bind fun f => f.stages.get u
  ∃ hold : Bool, (hold = true ↔ g.holds) ∧
    laidOut b 31 [(0, flag q.enabled), (1, u16 q.floor), (3, u16 q.top), (5, u16 q.idle), (7, u16 q.share),
      (9, flag (s.pm.refs.get u).seeing), (10, u16 x.latest), (12, flag x.lastSeeing),
      (13, match s.ae.activity.get u, entry with
        | none, _ => [0]
        | some a, none => flag a.idle
        | some _, some e => flag e.idle),
      (14, match entry with
        | none => List.replicate 11 0
        | some e => [1] ++ u16 e.target ++ coded kindValues e.kind ++ u16 e.share ++
          coded [Mark.none, .top, .floor, .curfew, .stop, .survey, .closed] e.named.mark ++
          optional 1 (e.named.point.map fun k => u8 k.1) ++ optional 1 (e.named.tier.map (coded tierValues))),
      (25, coded complianceValues g.compliance), (26, u16 g.c), (28, u16 g.t), (30, flag hold)]

/-- R192: the payload of LEVELS_READ. -/
def State.levelsShownBy (s : State) (part : LevelsPart) (b : List Byte) : Prop :=
  match part with
  | .channels first => b.length = 80 ∧
      ∀ c : ChannelId, first ≤ c.1 → c.1 < first + 8 → s.channelShownBy c ((b.drop (10 * (c.1 - first))).take 10)
  | .points first => b.length = 100 ∧
      ∀ k : PointId, first ≤ k.1 → k.1 < first + 4 → s.pointShownBy k ((b.drop (25 * (k.1 - first))).take 25)
  | .stages => laidOut b 128 [(0, u32 s.ei.sessionFrames)] ∧
      ∀ u : StageId, s.stageShownBy u ((b.drop (4 + 31 * u.1)).take 31)

/-- R205: the mask of the classes of some notices. -/
def classesMasked (ns : List Notice) (m : Nat) : Prop :=
  m < 1024 ∧ ∀ i : Nat, m.testBit i = true ↔ ∃ n ∈ ns, classValues.idxOf n.cls = i

/-- R205: the detail bytes of a notice. -/
def Notice.shown : Notice → List Byte
  | .hold u change cause => u8 u.1 ++ coded changeValues change ++ coded causeValues cause
  | .exceed k tier => u8 k.1 ++ coded tierValues tier ++ [0]
  | .curfewApproach minute => [0] ++ u16 minute
  | .curfewStop minute => [1] ++ u16 minute
  | .sensorChannel c => [0] ++ u8 c.1 ++ [0]
  | .sensorPoint k => [1] ++ u8 k.1 ++ [0]
  | .lowered u c => u8 u.1 ++ u16 c
  | .schedule reason => [if reason = none then 0 else 1] ++ coded resultValues reason ++ [0]
  | .survey outcome u =>
    coded [none, some SurveyReason.notQuiet, some .channelLost, some .interference, some .weakSignal, some .operator] outcome ++
      u8 u.1 ++ [0]
  | .ring held => u16 held ++ [0]
  | .access j event => u8 j.1 ++ coded eventValues event ++ [0]
  | .clock valid => flag valid ++ [0, 0]

/-- R174, R205: the notice part of a pending set, which stands highest priority first. -/
def noticeShownBy (ns : List Notice) (b : List Byte) : Prop :=
  match ns with
  | [] => b = List.replicate 6 0
  | n :: rest => ∃ m, classesMasked rest m ∧ laidOut b 6 [(0, u8 (classValues.idxOf n.cls + 1)), (1, n.shown), (4, u16 m)]

/-- R181, R186, R191: slot `j` in the summary. -/
def State.slotShownBy (s : State) (j : SlotId) (b : List Byte) : Prop :=
  let x := s.settings.stations.get j
  let a := s.la.slots.get j
  laidOut b 6 [
    (0, match x.role with
      | .unassigned => [0, 0, 0]
      | .authority => [1, 0, 0]
      | .operator => [2, 0, 0]
      | .production u => [3, 1] ++ u8 u.1
      | .observer => [4, 0, 0]),
    (3, flag x.authorized),
    (4, if a.broken = true then [4]
      else if s.la.link = .turn j true ∨ s.la.link = .turn j false ∨ s.la.link = .responding j then [2]
      else if s.la.link = .free (some j) then [3]
      else if a.line = true then [1] else [0]),
    (5, u8 a.missRun)]

/-- R203: the source of the limits in force and the index of the period in force. -/
def Limits.sourceShown (l : Limits) : List Byte :=
  match l.source with
  | none => [0, 0]
  | some i => [1] ++ u8 i

/-- R174, R191: the payload of STATUS_READ with this pending set. -/
def State.statusShownBy (s : State) (ns : List Notice) (b : List Byte) : Prop :=
  ∃ (c : CurfewInfo) (holds : Bank 4 Bool), s.curfewIs c ∧ (∀ u, holds.get u = true ↔ (s.gu.grants.get u).holds) ∧
    laidOut b 91 [(0, timeBytes s.su.clock), (6, flag (s.su.session ≠ none)),
      (7, optional 10 (s.su.session.map fun q => u16 q.endMinute ++ u32 q.fS ++ u32 s.ei.sessionFrames)), (18, flag c.stop),
      (19, optional 2 (c.next.map fun n => u16 n.t)), (22, flag (s.ae.approach ≠ none)), (23, flag s.su.commit),
      (24, s.su.limits.sourceShown), (26, coded [SurveyState.idle, .quiet, .signal, .done, .aborted] s.cs.state), (27, u8 s.cs.stage.1),
      (28, flag (holds.get 0)), (29, flag (holds.get 1)), (30, flag (holds.get 2)), (31, flag (holds.get 3)),
      (32, flag (s.st.saving ≠ none)), (33, u16 s.rr.list.length), (35, u16 s.rr.lost)] ∧
    (∀ j : SlotId, s.slotShownBy j ((b.drop (37 + 6 * j.1)).take 6)) ∧
    noticeShownBy ns (b.drop 85)

/-- R94, R103, R109: the payload of SURVEY_READ. -/
def Survey.shownBy (v : Survey) (b : List Byte) : Prop :=
  laidOut b 109 [(0, coded [SurveyState.idle, .quiet, .signal, .done, .aborted] v.state), (1, u8 v.stage.1), (2, u8 v.d), (3, u16 v.level),
    (5, u8 v.phaseSecs), (6, u8 v.excluded), (7, u8 v.strong),
    (8, optional 1 (v.reason.map (coded [SurveyReason.notQuiet, .channelLost, .interference, .weakSignal, .operator])))] ∧
  (∀ k : PointId, (b.drop (10 + 2 * k.1)).take 2 = u8 (v.quiet.get k).unusable ++ u8 (v.signal.get k).unusable) ∧
  (v.results = none → b.drop 26 = List.replicate 83 0) ∧
  ∀ r, v.results = some r → laidOut b 109 [(26, [1]), (107, u16 r.lvR)] ∧
    ∀ k : PointId, let x := r.points.get k
      laidOut ((b.drop (27 + 10 * k.1)).take 10) 10 [(0, if x.code = none then [1] else [0]), (1, optional 2 (x.code.map i16)),
        (4, optional 2 (x.lvB.map u16)), (7, optional 2 (x.lvS.map u16))]

/-- R203: a zone entry. The value bytes of an absent limit are 0 (assumption 14), as are bits 2 to 7 of the presence byte
(assumption 35). -/
def ZoneLimits.shownBy (z : ZoneLimits) (b : List Byte) : Prop :=
  laidOut b 6 [(0, u8 ((if z.lf = none then 0 else 1) + if z.window = none then 0 else 2)), (1, u16 (z.lf.getD 0)),
    (3, match z.window with
      | none => [0, 0, 0]
      | some w => u16 w.lw ++ u8 w.n)]

/-- R203: a period record. -/
def Period.shownBy (q : Period) (b : List Byte) : Prop :=
  laidOut b 28 [(0, u16 q.start), (2, coded [PeriodKind.opened, .stop] q.kind), (3, u8 q.ramp)] ∧
  ∀ z : ZoneId, (q.zones.get z).shownBy ((b.drop (4 + 6 * z.1)).take 6)

/-- R203: a session allowance table. -/
def Allowance.shownBy (a : Allowance) (b : List Byte) : Prop :=
  laidOut b 14 [(12, u16 a.latestEnd)] ∧ ∀ z : ZoneId, (b.drop (3 * z.1)).take 3 = optional 2 ((a.ls.get z).map u16)

/-- R80, R203: the payload of SCHED_READ. The entries returned of FALLBACK are its four, of ALLOWANCE its two (assumption 28). -/
def State.scheduleShownBy (s : State) (list : SchedList) (first : Nat) (b : List Byte) : Prop :=
  let holds := fun (length returned : Nat) => laidOut b length [(0, timeBytes s.su.clock), (6, s.su.limits.sourceShown),
    (8, flag (s.su.limits.stop ≠ none)), (9, u8 s.settings.schedule.length), (10, u8 s.su.pendingList.length), (11, flag s.su.commit),
    (12, u8 returned)]
  let periods := fun (ps : List Period) =>
    let window := (ps.drop first).take 4
    holds (13 + 28 * window.length) window.length ∧
      ∀ (i : Nat) q, window[i]? = some q → q.shownBy ((b.drop (13 + 28 * i)).take 28)
  match list with
  | .active => periods s.settings.schedule
  | .pending => periods s.su.pendingList
  | .fallback => holds 37 4 ∧ ∀ z : ZoneId, (s.settings.fallback.get z).shownBy ((b.drop (13 + 6 * z.1)).take 6)
  | .allowance => holds 41 2 ∧ s.settings.allowance.shownBy ((b.drop 13).take 14) ∧ s.su.pendingAllowance.shownBy (b.drop 27)

/-- R206: a record. -/
def Record.shownBy (r : Record) (b : List Byte) : Prop :=
  let laid := fun (kind length : Nat) (fields : List (Nat × List Byte)) =>
    laidOut b length ([(0, u32 r.number), (4, u8 kind), (5, u8 length), (6, timeBytes r.stamp)] ++ fields)
  match r.body with
  | .exceedanceStart k tier start limit => laid 1 18 [(12, u8 k.1), (13, coded tierValues tier), (14, u16 start), (16, u16 limit)]
  | .exceedanceEnd k tier peak duration => laid 2 20 [(12, u8 k.1), (13, coded tierValues tier), (14, u16 peak), (16, u32 duration)]
  | .intervalSummary k laeq lceq laMax blind overload gap source =>
      laid 3 26 [(12, u8 k.1), (13, u16 laeq), (15, u16 lceq), (17, u16 laMax),
        (19, u16 blind), (21, u16 overload), (23, u16 gap), (25, coded sourceValues source)]
  | .enforcement u change cause c last => laid 4 20 [(12, u8 u.1), (13, coded changeValues change), (14, coded causeValues cause),
      (15, u16 c), (17, match last with | .blind => [0, 0, 0] | .seeing l => [1] ++ u16 l)]
  | .schedule reason count => laid 5 15 [(12, [if reason = none then 0 else 1]), (13, coded resultValues reason), (14, u8 count)]
  | .sessionOpened j fS => laid 6 19 [(12, [0]), (13, u8 j.1), (14, u32 fS), (18, [0])]
  | .sessionClosed j fS cause => laid 6 19 [(12, [1]), (13, u8 j.1), (14, u32 fS),
      (18, match cause with | .request => [1] | .ended => [2] | .reset => [3])]
  | .curfewApproach minute => laid 7 15 [(12, [0]), (13, u16 minute)]
  | .curfewStop minute => laid 7 15 [(12, [1]), (13, u16 minute)]
  | .sensorChannel c state => laid 8 15 [(12, [0]), (13, u8 c.1), (14, coded channelValues state)]
  | .sensorPoint k source => laid 8 15 [(12, [1]), (13, u8 k.1), (14, coded sourceValues source)]
  | .access j event code => laid 9 15 [(12, u8 j.1), (13, coded eventValues event), (14, [if event = .unauthorized then code else 0])]
  | .clock old new => laid 10 24 [(12, timeBytes old), (18, timeBytes new)]
  | .gap cause lost => laid 11 15 [(12, coded [GapCause.powerUp, .commandReset, .storeInvalid, .ringFull] cause), (13, u16 lost)]

/-- R166, R206: the payload of RECORD_READ: the records from the offset on, up to the count asked for and to the first that
would not fit the 128 bytes. -/
def RecordRing.shownBy (q : RecordRing) (offset count : Nat) (b : List Byte) : Prop :=
  ∃ (returned left : List Record) (cells : List (List Byte)), (q.list.drop offset).take count = returned ++ left ∧
    List.Forall₂ Record.shownBy returned cells ∧
    b = u16 q.list.length ++ u16 q.lost ++ u8 returned.length ++ cells.flatten ∧ b.length ≤ 128 ∧
    ∀ r, left.head? = some r → ∀ c, r.shownBy c → 128 < b.length + c.length

end Sys2Proof.Machine
end

