-- ==== Sys2Proof/Machine/Frames.lean ====
section
/-!
DEFINITION. How commands of the link are spelled on the wire: the command that a completed request frame is, and the frame that a
request is sent as (R178, R179, R201, R202).
-/

namespace Sys2Proof.Machine

/-- The command that a request with its parameters is. -/
def Request.command (r : Request) (params : List Byte) : Instr :=
  match r with
  | .statusRead => .statusRead params
  | .levelsRead => .levelsRead params
  | .noticeEnable => .noticeEnable params
  | .grantQuery => .grantQuery params
  | .grantAck => .grantAck params
  | .sessionOpen => .sessionOpen params
  | .sessionClose => .sessionClose params
  | .pointWrite => .pointWrite params
  | .stageWrite => .stageWrite params
  | .channelBind => .channelBind params
  | .shareWrite => .shareWrite params
  | .couplingWrite => .couplingWrite params
  | .couplingRead => .couplingRead params
  | .surveyStart => .surveyStart params
  | .surveyAbort => .surveyAbort params
  | .surveyAccept => .surveyAccept params
  | .surveyDiscard => .surveyDiscard params
  | .surveyRead => .surveyRead params
  | .schedRead => .schedRead params
  | .schedWrite => .schedWrite params
  | .schedClear => .schedClear params
  | .schedCommit => .schedCommit params
  | .sessionLimitWrite => .sessionLimitWrite params
  | .fallbackWrite => .fallbackWrite params
  | .timeSet => .timeSet params
  | .roleWrite => .roleWrite params
  | .dispatchWrite => .dispatchWrite params
  | .holdForce => .holdForce params
  | .holdUnforce => .holdUnforce params
  | .recordRead => .recordRead params
  | .recordRelease => .recordRelease params
  | .arbWrite => .arbWrite params
  | .arbClear => .arbClear params
  | .timingWrite => .timingWrite params
  | .storeSave => .storeSave params
  | .reset => .reset params

/-- The code and parameters of a command that travels as a request frame; `none` for an event. -/
def requestOf : Instr → Option (Byte × List Byte)
  | .unknownRequest code params => some (code, params)
  | .statusRead params => some (Request.statusRead.code, params)
  | .levelsRead params => some (Request.levelsRead.code, params)
  | .noticeEnable params => some (Request.noticeEnable.code, params)
  | .grantQuery params => some (Request.grantQuery.code, params)
  | .grantAck params => some (Request.grantAck.code, params)
  | .sessionOpen params => some (Request.sessionOpen.code, params)
  | .sessionClose params => some (Request.sessionClose.code, params)
  | .pointWrite params => some (Request.pointWrite.code, params)
  | .stageWrite params => some (Request.stageWrite.code, params)
  | .channelBind params => some (Request.channelBind.code, params)
  | .shareWrite params => some (Request.shareWrite.code, params)
  | .couplingWrite params => some (Request.couplingWrite.code, params)
  | .couplingRead params => some (Request.couplingRead.code, params)
  | .surveyStart params => some (Request.surveyStart.code, params)
  | .surveyAbort params => some (Request.surveyAbort.code, params)
  | .surveyAccept params => some (Request.surveyAccept.code, params)
  | .surveyDiscard params => some (Request.surveyDiscard.code, params)
  | .surveyRead params => some (Request.surveyRead.code, params)
  | .schedRead params => some (Request.schedRead.code, params)
  | .schedWrite params => some (Request.schedWrite.code, params)
  | .schedClear params => some (Request.schedClear.code, params)
  | .schedCommit params => some (Request.schedCommit.code, params)
  | .sessionLimitWrite params => some (Request.sessionLimitWrite.code, params)
  | .fallbackWrite params => some (Request.fallbackWrite.code, params)
  | .timeSet params => some (Request.timeSet.code, params)
  | .roleWrite params => some (Request.roleWrite.code, params)
  | .dispatchWrite params => some (Request.dispatchWrite.code, params)
  | .holdForce params => some (Request.holdForce.code, params)
  | .holdUnforce params => some (Request.holdUnforce.code, params)
  | .recordRead params => some (Request.recordRead.code, params)
  | .recordRelease params => some (Request.recordRelease.code, params)
  | .arbWrite params => some (Request.arbWrite.code, params)
  | .arbClear params => some (Request.arbClear.code, params)
  | .timingWrite params => some (Request.timingWrite.code, params)
  | .storeSave params => some (Request.storeSave.code, params)
  | .reset params => some (Request.reset.code, params)
  | .frameArrival .. | .silenceTimerExpiry _ | .frameBoundary | .sessionEnd | .secondClose | .minuteClose | .intervalClose
  | .passResult | .complianceTimerExpiry _ | .holdMinimumExpiry _ | .clockAdvance | .clockMinuteBoundary | .saveCompletion
  | .powerUp | .commandReset | .requestLineAsserted _ | .requestLineReleased _ | .parkedWindowExpiry | .parkedFrameStart
  | .grantWindowExpiry | .frameLengthExcess _ | .frameTimeLimit | .badFrameEnd _ | .linkIdleGap | .responseEnd
  | .receiverIdleGap _ | .lossOfPower => none

/-- The bytes that slot `k` sends for a command that travels as a request frame (R201). -/
def commandFrame (k : SlotId) (c : Instr) : Option (List Byte) :=
  (requestOf c).map fun x => requestFrame (BitVec.ofNat 8 k.1) x.1 x.2

/-- Characters received without a framing error. -/
def cleanChars (bytes : List Byte) : List RxChar := bytes.map fun b => ⟨b, false⟩

/-- The request that a code and its parameters are, UNKNOWN_REQUEST where no request has the code (R188). -/
def commandOf (code : Byte) (params : List Byte) : Instr :=
  match Request.ofCode code with
  | none => .unknownRequest code params
  | some r => r.command params

/-- The command that the characters of a frame are in a turn of slot `granted`: the miss for its length field, the miss of a bad
frame, or the request; none while the frame is not complete (R178, R179, R201). -/
def commandOfFrame (granted : SlotId) (chars : List RxChar) : Option Instr :=
  match chars.map (·.byte) with
  | _slot :: code :: len :: rest =>
    if 59 < len.toNat then some (.frameLengthExcess len)
    else if rest.length ≠ len.toNat + 2 then none
    else if (frameFault granted chars).isSome then some (.badFrameEnd chars)
    else some (commandOf code (rest.take len.toNat))
  | _ => none

end Sys2Proof.Machine
end

