-- ==== Sys2Proof/WellFormed.lean ====
section
/-!
DEFINITION. Well-formed commands: what the lines can bring. The meanings are total and do not depend on it (assumption 30).
-/

namespace Sys2Proof

open Sys2Proof.Machine

/-- The characters of a completed link frame: slot, code, length field L up to 59, L parameters, two check bytes (R201). -/
def completeFrame (chars : List RxChar) : Bool :=
  match chars.map (·.byte) with
  | _ :: _ :: len :: rest => len.toNat ≤ 59 && rest.length = len.toNat + 2
  | _ => false

/-- The parameters of a request fit a frame of at most 64 bytes (R201). -/
def paramsFit (params : List Byte) : Bool := params.length ≤ 59

/-- A command as the lines can bring it: a candidate has a first character (R15), a length field in excess is above 59 (R201),
a bad frame is complete (R179), an unknown request has a code that names none (R188), parameters fit the frame. -/
def Instr.wellFormed (c : Instr) : Bool :=
  match c with
  | .frameArrival _ cand => !cand.isEmpty
  | .frameLengthExcess length => 59 < length.toNat
  | .badFrameEnd chars => completeFrame chars
  | .unknownRequest code params => (Request.ofCode code).isNone && paramsFit params
  | c =>
    match requestOf c with
    | none => true
    | some x => paramsFit x.2

end Sys2Proof
end

