-- ==== Sys2Proof/Certificates/Slice0/Obligations.lean ====
section
/-!
DEFINITION. The statements for the provers. Each docstring names the rules of the spec that it formalises; OBLIGATIONS.json lists them.
-/

open Sys2Proof Sys2Proof.Machine

/-! ### The step and the queue -/

/-- The step runs the command at the front of the queue, on the state with the queue's rest. R110: with none waiting, a powered
part whose engine has a snapshot to take and no pass in flight starts the pass; otherwise it idles (the model's choice,
assumptions 3, 25). -/
def Obligations.StepRunsFrontCommand : Prop :=
  (∀ (c : Instr) (rest : List Instr) (s : State), step { s with pending := c :: rest } = exec c { s with pending := rest }) ∧
  ∀ s : State, s.pending = [] →
    (∀ snap, s.powered = true → s.ae.pass = none → s.ae.handed = some snap → ∃ t, step s = .next t ∧ s.passStarts t snap) ∧
    (s.powered = false ∨ s.ae.pass ≠ none ∨ s.ae.handed = none → step s = .next s)

/-- Every command of every state is taken whole and leaves the queue alone: no fault, no refusal. That a command whose event cannot
occur leaves the state is the model's choice (assumption 2). -/
def Obligations.EveryCommandIsTakenWhole : Prop :=
  ∀ (c : Instr) (s : State), ∃ t, exec c s = .next t ∧ t.pending = s.pending

/-! ### Arithmetic (R5, R6, R7) -/

/-- R5: p(L) is 10^((L − 3000)/1000), L clamped to [3000, 13000], rounded half up; it lies in [1, 10^10] and never falls. -/
def Obligations.PowerIsRoundedHalfUp : Prop :=
  (∀ l : Int, ∀ x : Nat, (x : Int) = max 3000 (min 13000 l) - 3000 →
    (2 * p l - 1) ^ 1000 ≤ 2 ^ 1000 * 10 ^ x ∧ 2 ^ 1000 * 10 ^ x < (2 * p l + 1) ^ 1000) ∧
  (∀ l : Int, 1 ≤ p l ∧ p l ≤ 10 ^ 10) ∧
  ∀ a b : Int, a ≤ b → p a ≤ p b

/-- R6: Lv(x) is 3000 + 1000·log10(x) rounded half up and clamped to 13000, and 3000 for x below 1: the greatest code of the
boundary form; it lies in [3000, 13000] and never falls. -/
def Obligations.LevelIsRoundedHalfUp : Prop :=
  (∀ x : Int, x < 1 → lv x = 3000) ∧
  (∀ x : Nat, 1 ≤ x →
    3000 ≤ lv x ∧ lv x ≤ 13000 ∧
    (lv x = 3000 ∨ 10 ^ (2 * (lv x - 3000) - 1) ≤ x ^ 2000) ∧
    (lv x = 13000 ∨ x ^ 2000 < 10 ^ (2 * (lv x + 1 - 3000) - 1))) ∧
  ∀ a b : Int, a ≤ b → lv a ≤ lv b

/-- R7: a level converted to power and back returns exactly from 57.00 dB on, within one code from 52.00 dB on, and within 176
codes below. -/
def Obligations.LevelReturnsThroughPower : Prop :=
  (∀ l : Nat, 5700 ≤ l → l ≤ 13000 → lv (p l) = l) ∧
  (∀ l : Nat, 5200 ≤ l → l ≤ 5699 → lv (p l) ≤ l + 1 ∧ l ≤ lv (p l) + 1) ∧
  (∀ l : Nat, 3000 ≤ l → l ≤ 5199 → lv (p l) ≤ l + 176 ∧ l ≤ lv (p l) + 176) ∧
  p 3176 = 1 ∧ lv 1 = 3000 ∧ p 3177 = 2 ∧ lv 2 = 3301

/-! ### Encoding (R15, R16, R198 to R203) -/

/-- R201, R202: the frame a slot sends for a well-formed request is read, in that slot's turn, as the request, every parameter
byte of it; it is at most 64 bytes long. -/
def Obligations.RequestFrameReadsBack : Prop :=
  ∀ (k : SlotId) (c : Instr) (bytes : List Byte), c.wellFormed = true → commandFrame k c = some bytes →
    commandOfFrame k (cleanChars bytes) = some c ∧ bytes.length ≤ 64

/-- R198, R202, R203: the parameters of every request with parameters are read exactly where they are laid out as the formats
chapter gives them and each value lies in the range its owning rule gives (R26, R28, R64, R69, R75, R76, R80 to R82, R91, R92,
R95, R114, R115, R117, R140, R142, R152, R166, R167, R171, R176, R184 to R187, R192, R193); for SCHED_WRITE, SESSION_LIMIT_WRITE and
FALLBACK_WRITE every byte string is read as the record it spells (Safety.lean), the value bytes of absent limits being ignored,
or as none. A flag byte other than 0 and 1 is free (assumption 8), but for POINT_WRITE's. That bits 2 to 7 of a zone entry's
presence byte are ignored is the model's choice (assumption 35). -/
def Obligations.ParametersAreReadAsLaidOut : Prop :=
  (readFlag 0 = some false ∧ readFlag 1 = some true) ∧
  (∀ (n : Nat) (bs : List Byte) (i : Fin n), n ≤ 256 → (readIndex n bs = some i ↔ bs = u8 i.1)) ∧
  (∀ (bs : List Byte) (i : Nat),
    (readLevelsPart bs = some (.channels i) ↔ (i = 0 ∨ i = 8) ∧ bs = u8 0 ++ u8 i) ∧
    (readLevelsPart bs = some (.points i) ↔ (i = 0 ∨ i = 4) ∧ bs = u8 1 ++ u8 i) ∧
    (readLevelsPart bs = some .stages ↔ bs = u8 2 ++ u8 0)) ∧
  (∀ (bs : List Byte) (on : Bool), readEnable bs = some on ↔ ∃ b, bs = [b] ∧ readFlag b = some on) ∧
  (∀ (bs : List Byte) (u : StageId) (a : Nat) (c : Bool), readAck bs = some (u, a, c) ↔
    a ≤ 65535 ∧ ∃ b, bs = u8 u.1 ++ u16 a ++ [b] ∧ readFlag b = some c) ∧
  (∀ (bs : List Byte) (r : Option Nat), readEndMinute bs = some r ↔
    (r = none ∧ bs = []) ∨ ∃ m, r = some m ∧ m ≤ 1439 ∧ bs = u16 m) ∧
  (∀ (bs : List Byte) (k : PointId) (q : PointSettings), readPoint bs = some (k, q) ↔
    -1000 ≤ q.standbyOffset ∧ q.standbyOffset ≤ 1000 ∧ 3000 ≤ q.substitute ∧ q.substitute ≤ 13000 ∧
    bs = u8 k.1 ++ flag q.enabled ++ u8 q.zone.1 ++ i16 q.standbyOffset ++ u16 q.substitute) ∧
  (∀ (bs : List Byte) (u : StageId) (on : Bool) (floor top idle : Nat), readStage bs = some (u, on, floor, top, idle) ↔
    4000 ≤ floor ∧ floor ≤ 9000 ∧ 6000 ≤ top ∧ top ≤ 11500 ∧ 4000 ≤ idle ∧ idle ≤ 10000 ∧ floor + 100 ≤ top ∧
    ∃ b, bs = u8 u.1 ++ [b] ++ u16 floor ++ u16 top ++ u16 idle ∧ readFlag b = some on) ∧
  (∀ (bs : List Byte) (c : ChannelId) (e : MapEntry), readBind bs = some (c, e) ↔ e.expected ≤ 65535 ∧
    ∃ kind i : Byte, bs = u8 c.1 ++ [kind, i] ++ u16 e.expected ∧
      match e.binding with
      | .unused => kind = 0
      | .primary k => kind = 1 ∧ i.toNat = k.1
      | .standby k => kind = 2 ∧ i.toNat = k.1
      | .reference u => kind = 3 ∧ i.toNat = u.1) ∧
  (∀ (bs : List Byte) (x : Bank 4 Nat), readShares bs = some x ↔
    (∀ u, x.get u ≤ 256) ∧ bs = allStages.flatMap fun u => u16 (x.get u)) ∧
  (∀ (bs : List Byte) (u : StageId) (k : PointId) (x : Option Int), readCoupling bs = some (u, k, x) ↔
    (∀ y, x = some y → -9000 ≤ y ∧ y ≤ 0) ∧ bs = u8 u.1 ++ u8 k.1 ++ couplingBytes x) ∧
  (∀ (bs : List Byte) (u : StageId) (d l : Nat), readSurvey bs = some (u, d, l) ↔
    10 ≤ d ∧ d ≤ 120 ∧ l ≤ 65535 ∧ bs = u8 u.1 ++ u8 d ++ u16 l) ∧
  (∀ (bs : List Byte) (l : SchedList) (first : Nat), readSchedList bs = some (l, first) ↔ first ≤ 255 ∧
    bs = u8 (match l with | .active => 0 | .pending => 1 | .fallback => 2 | .allowance => 3) ++ u8 first) ∧
  ((∀ (i : Nat) (q : Period), i ≤ 255 → q.start ≤ 65535 → q.ramp ≤ 255 →
      (∀ z, (∀ l, (q.zones.get z).lf = some l → l ≤ 65535) ∧
        ∀ w, (q.zones.get z).window = some w → w.lw ≤ 65535 ∧ w.n ≤ 255) →
      readPeriod (u8 i ++ q.bytes) = some (i, q)) ∧
    ∀ (bs : List Byte) (i : Nat) (q : Period), readPeriod bs = some (i, q) ↔
      ∃ (b : Byte) (record : List Byte), bs = b :: record ∧ i = b.toNat ∧ q.spelledBy record) ∧
  ((∀ a : Allowance, a.latestEnd ≤ 65535 → (∀ z l, a.ls.get z = some l → l ≤ 65535) → readAllowance a.bytes = some a) ∧
    ∀ (bs : List Byte) (a : Allowance), readAllowance bs = some a ↔ a.spelledBy bs) ∧
  ((∀ z : Bank 4 ZoneLimits,
      (∀ i, (∀ l, (z.get i).lf = some l → l ≤ 65535) ∧ ∀ w, (z.get i).window = some w → w.lw ≤ 65535 ∧ w.n ≤ 255) →
      readZones (zonesBytes z) = some z) ∧
    (∀ (bs : List Byte) (z : Bank 4 ZoneLimits), readZones bs = some z ↔ zonesSpelledBy z bs) ∧
    ∀ (bs : List Byte) (z : Bank 4 ZoneLimits), readFallback bs = some z ↔ readZones bs = some z ∧
      ∀ i, (∀ l, (z.get i).lf = some l → 3000 ≤ l ∧ l ≤ 13000) ∧
        ∀ w, (z.get i).window = some w → 3000 ≤ w.lw ∧ w.lw ≤ 13000 ∧ 1 ≤ w.n ∧ w.n ≤ 60) ∧
  (∀ (bs : List Byte) (c : Time), readTime bs = some c ↔ c.day ≤ 65535 ∧ c.secs ≤ 86399 ∧ bs = timeBytes c) ∧
  (∀ (bs : List Byte) (k : SlotId) (x : Station), readStation bs = some (k, x) ↔
    ∃ role stage on treatment : Byte, bs = u8 k.1 ++ [role, stage, on, treatment] ∧
      (stage.toNat ≤ 3 ∨ stage = 0xFF) ∧ readFlag on = some x.authorized ∧
      (match x.role with
        | .unassigned => role = 0
        | .authority => role = 1
        | .operator => role = 2
        | .production u => role = 3 ∧ stage.toNat = u.1
        | .observer => role = 4) ∧
      treatment = (match x.treatment with | .drop => 0 | .refuse => 1 | .demote => 2)) ∧
  (∀ (bs : List Byte) (c : Fin 10) (m : RoleMask), readDispatch bs = some (c, m) ↔
    bs = u8 (c.1 + 1) ++ u8 ((if m.authority then 1 else 0) + (if m.operator then 2 else 0) + (if m.production then 4 else 0) +
      if m.observer then 8 else 0)) ∧
  (∀ (bs : List Byte) (offset count : Nat), readRecordSpan bs = some (offset, count) ↔
    offset ≤ 65535 ∧ 1 ≤ count ∧ count ≤ 8 ∧ bs = u16 offset ++ u8 count) ∧
  (∀ (bs : List Byte) (n : Nat), readCount bs = some n ↔ 1 ≤ n ∧ n ≤ 65535 ∧ bs = u16 n) ∧
  (∀ (bs : List Byte) (g : ArbiterSettings), readArbiter bs = some g ↔
    ∃ b, bs = [b] ++ u8 (match g.park with | .last => 0 | .default => 1) ++ u8 g.defaultSlot.1 ∧ readFlag b = some g.isolation) ∧
  ∀ (bs : List Byte) (g : Timing), readTiming bs = some g ↔
    600 ≤ g.depth ∧ g.depth ≤ 6000 ∧ 100 ≤ g.horizon ∧ g.horizon ≤ 3000 ∧ 10 ≤ g.downRate ∧ g.downRate ≤ 600 ∧
    5 ≤ g.upRate ∧ g.upRate ≤ 200 ∧ 1 ≤ g.deadline ∧ g.deadline ≤ 30 ∧ 5 ≤ g.holdMinimum ∧ g.holdMinimum ≤ 120 ∧
    100 ≤ g.overrunMargin ∧ g.overrunMargin ≤ 1000 ∧ 1 ≤ g.overrunCount ∧ g.overrunCount ≤ 30 ∧
    1 ≤ g.threshold ∧ g.threshold ≤ 1024 ∧
    bs = u16 g.depth ++ u16 g.horizon ++ u16 g.downRate ++ u8 g.upRate ++ u8 g.deadline ++ u8 g.holdMinimum ++
      u16 g.overrunMargin ++ u8 g.overrunCount ++ u16 g.threshold

/-- R15, R16, R200: a candidate is a received frame exactly when it holds ten characters without a framing error, its last byte is
the CRC-8 of the nine before it, and its identity is not 0; its fields are those of the layout. The two check values of R199. -/
def Obligations.SensorFrameIsChecked : Prop :=
  (crc8 [0x31, 0x32, 0x33, 0x34, 0x35, 0x36, 0x37, 0x38, 0x39] = 0xF4#8 ∧
    crc16 [0x31, 0x32, 0x33, 0x34, 0x35, 0x36, 0x37, 0x38, 0x39] = 0x29B1#16) ∧
  ∀ (cand : List RxChar) (f : HeadFrame), headFrame cand = some f ↔
    (∀ x ∈ cand, x.framingError = false) ∧
    ∃ b0 b1 b2 b3 b4 b5 b6 b7 b8 b9 : Byte, cand.map (·.byte) = [b0, b1, b2, b3, b4, b5, b6, b7, b8, b9] ∧
      b9 = crc8 [b0, b1, b2, b3, b4, b5, b6, b7, b8] ∧ 256 * b0.toNat + b1.toNat ≠ 0 ∧
      f = ⟨256 * b0.toNat + b1.toNat, b2.toNat, 256 * b3.toNat + b4.toNat, 256 * b5.toNat + b6.toNat,
        b7.getLsbD 0, b7.getLsbD 1, b7.getLsbD 2⟩

/-! ### The ring and the pending sets (R163, R164, R168, R172) -/

/-- R164: the full ring drops an offered summary, displaces its oldest summary for another record, drops that where it holds
none, and counts one loss; below the capacity every record is kept. The number and the stamp are those of R163. R168: an offer
posts RING exactly where it brings the held count up to the attention threshold; otherwise it changes the ring alone. -/
def Obligations.RingHandlesOffer : Prop :=
  (∀ (q : RecordRing) (stamp : Time) (b : RecordBody),
    (q.offer stamp b).next = (q.next + 1) % 2 ^ 32 ∧
    (q.list.length < 1024 →
      (q.offer stamp b).list = q.list ++ [⟨q.next, stamp, b⟩] ∧ (q.offer stamp b).lost = q.lost) ∧
    (q.list.length = 1024 →
      (q.offer stamp b).list.length = 1024 ∧ (q.offer stamp b).lost = min 65535 (q.lost + 1) ∧
      (b.isSummary = true → (q.offer stamp b).list = q.list) ∧
      (b.isSummary = false → (∀ r ∈ q.list, r.body.isSummary = false) → (q.offer stamp b).list = q.list) ∧
      (b.isSummary = false → ∀ older x newer, q.list = older ++ x :: newer → x.body.isSummary = true →
        (∀ r ∈ older, r.body.isSummary = false) →
        (q.offer stamp b).list = older ++ newer ++ [⟨q.next, stamp, b⟩]))) ∧
  ∀ (b : RecordBody) (s : State),
    let q := s.rr.offer s.su.clock b
    (s.rr.list.length + 1 = s.settings.timing.threshold → s.rr.list.length < 1024 →
      offer b s = post (.ring s.settings.timing.threshold) { s with rr := q }) ∧
    (s.rr.list.length + 1 ≠ s.settings.timing.threshold ∨ 1024 ≤ s.rr.list.length → offer b s = { s with rr := q })

/-- R172: a posting puts the notice, in place of any of its class, into the set of every slot that is authorized, whose role is
in the class's mask and, for HOLD and LOWERED to a production slot, bound to the stage named; no other set changes. -/
def Obligations.PostingReachesEntitledSlots : Prop :=
  ∀ (n : Notice) (s : State) (k : SlotId), s.pendingSetsLawful →
    let old := (s.nu.get k).pending
    let new := ((post n s).nu.get k).pending
    let entitled := (s.settings.stations.get k).authorized = true ∧
      (s.settings.dispatch.get n.cls.rank).holds (s.settings.stations.get k).role = true ∧
      ∀ t u, (s.settings.stations.get k).role = .production t → n.stageNamed = some u → t = u
    (entitled → ∀ m, m ∈ new ↔ m = n ∨ (m ∈ old ∧ m.cls ≠ n.cls)) ∧
    (¬ entitled → new = old) ∧
    ((post n s).nu.get k).enable = (s.nu.get k).enable ∧
    post n s = { s with nu := (post n s).nu }

/-! ### What every step keeps -/

/-- R161: no step lets the ring hold more than 1024 records. -/
def Obligations.RingStaysBounded : Prop := ∀ s t : State, s.ringBounded → step s = .next t → t.ringBounded

/-- R134: no step takes a ceiling or a target out of its stage's floor and top. -/
def Obligations.CeilingsStayWithin : Prop :=
  ∀ s t : State, s.settingsAll Settings.topsAboveFloors → s.ceilingsWithin → step s = .next t →
    t.settingsAll Settings.topsAboveFloors ∧ t.ceilingsWithin

/-- R172: no step leaves a class twice in a pending set, or a notice in the set of an unauthorized slot. R175 to R177: a slot's
attention enable changes only by its own NOTICE_ENABLE or a reset. R172 to R174, R177: a class leaves a slot's set only by the
slot's own STATUS_READ, a ROLE_WRITE of the slot or a reset; a notice of it may be replaced by another. That a loss of power
empties the sets and sets the enables is the model's choice (assumption 19). -/
def Obligations.PendingSetsStayLawful : Prop :=
  ∀ s t : State, step s = .next t →
    let runs := fun (P : Instr → Prop) => ∃ c, s.pending.head? = some c ∧ P c
    (s.pendingSetsLawful → t.pendingSetsLawful) ∧
    ∀ k, let old := s.nu.get k
      let new := t.nu.get k
      let sends := ∃ u, frameTurn s = some (k, u)
      (new.enable = old.enable ∨ runs fun c => s.restartsNotices c ∨ (sends ∧ ∃ params, c = .noticeEnable params)) ∧
      ((∀ n ∈ old.pending, ∃ m ∈ new.pending, m.cls = n.cls) ∨ runs fun c => s.restartsNotices c ∨
        (sends ∧ ∃ params, c = .statusRead params) ∨ ∃ params x, c = .roleWrite params ∧ readStation params = some (k, x))

/-- R94: no step leaves a session open while the survey is in QUIET or SIGNAL. -/
def Obligations.NoSessionStaysInSurvey : Prop := ∀ s t : State, s.noSessionInSurvey → step s = .next t → t.noSessionInSurvey

/-- R25, R114, R186: in every settings record the part can work from, no two channels share a binding, the shares of the enabled
stages sum to at most 256, and the station table is lawful; no step changes that. -/
def Obligations.SettingsStayLawful : Prop :=
  ∀ s t : State,
    s.settingsAll (fun g => g.bindingsDistinct ∧ g.sharesBounded ∧ g.stationsLawful) → step s = .next t →
    t.settingsAll (fun g => g.bindingsDistinct ∧ g.sharesBounded ∧ g.stationsLawful)

/-- R67: the active schedule always holds between 1 and 16 periods with strictly ascending start minutes, whatever is adopted or
loaded. -/
def Obligations.ScheduleStaysLawful : Prop :=
  ∀ s t : State, s.settingsAll Settings.scheduleLawful → s.su.pendingList.length ≤ 16 → step s = .next t →
    t.settingsAll Settings.scheduleLawful ∧ t.su.pendingList.length ≤ 16

/-- R143, R147: after every step each compliance state stands with its timers, its applied value and its stage's enabled flag. -/
def Obligations.ComplianceStaysLawful : Prop := ∀ s t : State, s.complianceLawful → step s = .next t → t.complianceLawful

/-- R44: after every step the bucket of every point lies between −C_F and +C_F of the LF in force for its zone, and stands full
while no LF is in force. -/
def Obligations.BucketsStayBounded : Prop := ∀ s t : State, s.bucketsBounded → step s = .next t → t.bucketsBounded

/-- R49, R51, R57, R135: after every step the session frame count, the session tiers and the session flags agree with the
session. -/
def Obligations.SessionStaysMirrored : Prop := ∀ s t : State, s.sessionMirrored → step s = .next t → t.sessionMirrored

/-- R180, R183: no step makes slot 0 BROKEN or leaves the grant on a BROKEN slot. -/
def Obligations.GrantStaysLawful : Prop := ∀ s t : State, s.grantLawful → step s = .next t → t.grantLawful

/-- R63: the clock's day number and seconds of day stay in their ranges. -/
def Obligations.ClockStaysInRange : Prop := ∀ s t : State, s.clockInRange → step s = .next t → t.clockInRange

/-- R49: while a session is open, no step lowers a point's session accumulator. -/
def Obligations.SessionEnergyNeverFalls : Prop :=
  ∀ (s t : State) (k : PointId), step s = .next t → s.sessionIsOpen = true → t.sessionIsOpen = true →
    (s.ei.points.get k).eS ≤ (t.ei.points.get k).eS

/-- R178, R198: no payload that is sent is longer than 128 bytes. -/
def Obligations.PayloadsStayShort : Prop :=
  ∀ s t : State, (∀ r, s.la.response = some r → r.bytes.length ≤ 128) → step s = .next t →
    ∀ r, t.la.response = some r → r.bytes.length ≤ 128

/-- Every invariant that these statements say a step keeps holds right after reset, with the whole factory image the model
chooses for it (assumption 9). -/
def Obligations.ResetMeetsInvariants : Prop :=
  State.reset.ringBounded ∧ State.reset.ceilingsWithin ∧ State.reset.pendingSetsLawful ∧ State.reset.noSessionInSurvey ∧
  State.reset.settingsAll (fun g => g.topsAboveFloors ∧ g.bindingsDistinct ∧ g.sharesBounded ∧ g.stationsLawful ∧
    g.scheduleLawful) ∧
  State.reset.su.pendingList.length ≤ 16 ∧ State.reset.complianceLawful ∧ State.reset.bucketsBounded ∧
  State.reset.sessionMirrored ∧ State.reset.grantLawful ∧ State.reset.clockInRange ∧ State.reset.sourcesFollow ∧
  State.reset.la.response = none

/-! ### The access unit (R179, R188 to R190, R195) -/

/-- R190: a request of an authorized slot that is not answered OK changes nothing but the link, which sends the answer. -/
def Obligations.RefusalChangesNothing : Prop :=
  ∀ (r : Request) (params : List Byte) (s t u : State) (k : SlotId) (a : Response), s.powered = true → s.taken k = some u →
    (s.settings.stations.get k).authorized = true → exec (r.command params) s = .next t → t.la.response = some a →
    a.status ≠ .ok → t.la.link = .responding k → t = { s with la := { u.la with link := .responding k, response := some a } }

/-- R188: an authorized slot's request outside its role is answered ROLE, one whose length is no form of the request PARAM, one
whose parameters its owner cannot read in their ranges PARAM, a code that names no request UNKNOWN; nothing changes but the
link. That a flag byte other than 0 and 1 may be such a parameter (free, assumption 8), and is then answered PARAM whatever the state is, a
GRANT_ACK for a DISABLED stage too (assumption 39), are the model's choices. -/
def Obligations.JudgementOrderIsKept : Prop :=
  ∀ (s u : State) (k : SlotId) (params : List Byte), s.powered = true → s.taken k = some u →
    (s.settings.stations.get k).authorized = true →
    (∀ code, exec (.unknownRequest code params) s = .next (respond k ⟨.unknown, []⟩ u)) ∧
    (∀ r : Request, permitted (s.settings.stations.get k).role r params = false →
      exec (r.command params) s = .next (respond k ⟨.role, []⟩ u)) ∧
    (∀ r : Request, permitted (s.settings.stations.get k).role r params = true → params.length ∉ r.forms →
      exec (r.command params) s = .next (respond k ⟨.param, []⟩ u)) ∧
    ∀ r : Request, s.admits k r params u → r.reads params = false → exec (r.command params) s = .next (respond k ⟨.param, []⟩ u)

/-- R188, step 1: every request of an unauthorized slot, known or not, under every treatment, appends ACCESS (UNAUTHORIZED, its
code) and posts its notice. It is then dropped without an answer, answered ROLE, or, demoted, judged as an authorized
observer's: UNKNOWN, ROLE outside the observer's row, PARAM for a wrong length, STATUS_READ's summary with its own role and
notice (laid out as ReadsChangeNothing says, assumption 14), and otherwise what the observer's request does. -/
def Obligations.UnauthorizedRequestIsRecorded : Prop :=
  ∀ (params : List Byte) (s v : State) (k : SlotId), s.powered = true → frameTurn s = some (k, v) →
    let entry := s.settings.stations.get k
    entry.authorized = false →
    let heard := fun (code : Byte) (m : State) =>
      v.tells m [.access k .unauthorized code] [.access k .unauthorized] ∧
      m = { v with la := { v.la with slots := v.la.slots.set k { v.la.slots.get k with missRun := 0 } }, rr := m.rr, nu := m.nu }
    let common := fun c code => ∃ m, heard code m ∧
      (entry.treatment = .drop → ∃ b, m.la.arbitratedTo s.settings.arbiter b ∧ exec c s = .next { m with la := b }) ∧
      (entry.treatment = .refuse → exec c s = .next (respond k ⟨.role, []⟩ m))
    (∀ code, common (.unknownRequest code params) code ∧
      (entry.treatment = .demote → ∃ m, heard code m ∧
        exec (.unknownRequest code params) s = .next (respond k ⟨.unknown, []⟩ m))) ∧
    ∀ r : Request, common (r.command params) r.code ∧
      (entry.treatment = .demote → ∃ m, heard r.code m ∧
        (r.ofObserver = false → exec (r.command params) s = .next (respond k ⟨.role, []⟩ m)) ∧
        (r.ofObserver = true → params.length ∉ r.forms → exec (r.command params) s = .next (respond k ⟨.param, []⟩ m)) ∧
        (r = .statusRead → params.length ∈ r.forms → ∃ b, m.statusShownBy (m.nu.get k).pending b ∧
          exec (r.command params) s = .next (respond k ⟨.ok, b⟩
            { m with nu := m.nu.set k { m.nu.get k with pending := (m.nu.get k).pending.tail } })) ∧
        (r.ofObserver = true → r ≠ .statusRead → params.length ∈ r.forms → ∃ t,
          exec (r.command params) { m with settings := { m.settings with
            stations := m.settings.stations.set k ⟨.observer, true, entry.treatment⟩ } } = .next t ∧
          exec (r.command params) s = .next { t with settings := s.settings }))

/-- R195: while the store is saving, no request changes a stored setting or the store. -/
def Obligations.SavingFreezesSettings : Prop :=
  ∀ (r : Request) (params : List Byte) (s t : State), s.isSaving = true → exec (r.command params) s = .next t →
    t.settings = s.settings ∧ t.st = s.st

/-! ### Sensor channels (R15 to R23, R29, R31, R32) -/

/-- R17, R29, R32: after every step every source and reference is the one its channels give, and a channel is UNBOUND exactly where
it is bound UNUSED. -/
def Obligations.SourcesFollowChannels : Prop :=
  ∀ s t : State, s.settings.bindingsDistinct → s.sourcesFollow → step s = .next t → t.sourcesFollow

/-- R16, R21, R22: the silence timer's expiry, or the fifth bad frame in a row, takes SETTLING or LIVE to STALE with a SENSOR
record; in another state, and for an earlier bad frame, nothing but the timer or the bad-run count changes. That a stopped
timer's expiry leaves the state, and that an expired timer stands stopped, are the model's choices (assumptions 2, 23). -/
def Obligations.ChannelGoesStale : Prop :=
  ∀ (s : State) (c : ChannelId), s.powered = true → s.settings.bindingsDistinct →
    let x := s.sp.get c
    let counting := x.state = .settling ∨ x.state = .live
    (x.silence = false → exec (.silenceTimerExpiry c) s = .next s) ∧
    (x.silence = true → ¬ counting → exec (.silenceTimerExpiry c) s = .next (s.setChannel c { x with silence := false })) ∧
    (x.silence = true → counting → ∃ t, exec (.silenceTimerExpiry c) s = .next t ∧
      s.entered t c { x with silence := false, state := .stale, lastSeq := none } [.sensorChannel c .stale]) ∧
    ∀ cand, x.receiving = true → headFrame cand = none →
      (x.badRun < 4 ∨ ¬ counting →
        exec (.frameArrival c cand) s = .next (s.setChannel c { x with badRun := min 255 (x.badRun + 1) })) ∧
      (4 ≤ x.badRun → counting → ∃ t, exec (.frameArrival c cand) s = .next t ∧
        s.entered t c { x with badRun := min 255 (x.badRun + 1), state := .stale, lastSeq := none } [.sensorChannel c .stale])

/-- R17 to R20, R23: a received frame is discarded while the receiver waits and in UNBOUND and FAULTED; another identity faults the
channel; a duplicate acts no further; a good frame acts by its flags and the channel state, and joins the frame slot in
SETTLING and LIVE. -/
def Obligations.GoodFrameActsByState : Prop :=
  ∀ (s : State) (c : ChannelId) (cand : List RxChar) (f : HeadFrame),
    s.powered = true → s.settings.bindingsDistinct → headFrame cand = some f →
    let x := s.sp.get c
    let off : Int := match (s.settings.channelMap.get c).binding with
      | .standby k => (s.settings.points.get k).standbyOffset
      | _ => 0
    let missed := match x.lastSeq with
      | none => 0
      | some l => (f.seq + 256 - l) % 256 - 1
    let slot : FrameSlot := if 255 ≤ x.slot.count then x.slot else
      ⟨x.slot.aSum + p ((min 14000 f.la : Nat) + off), x.slot.cSum + p ((min 14000 f.lc : Nat) + off), x.slot.count + 1,
        x.slot.overload + (if f.overload = true then 1 else 0), min 65535 (x.slot.gap + missed)⟩
    let y : Channel := { x with
      accepted := f.identity, lastSeq := some f.seq, badRun := 0, silence := true, la := min 14000 f.la, lc := min 14000 f.lc }
    let enters := fun z records => ∃ t, exec (.frameArrival c cand) s = .next t ∧ s.entered t c z records
    let only := fun z => exec (.frameArrival c cand) s = .next (s.setChannel c z)
    (x.receiving = false ∨ x.state = .unbound ∨ x.state = .faulted → exec (.frameArrival c cand) s = .next s) ∧
    (x.receiving = true → x.state ≠ .unbound → x.state ≠ .faulted →
      (x.accepted ≠ 0 → x.accepted ≠ f.identity → enters { x with state := .faulted } [.sensorChannel c .faulted]) ∧
      (x.accepted = 0 ∨ x.accepted = f.identity →
        ((∃ l, x.lastSeq = some l ∧ (f.seq + 256 - l) % 256 = 0) → only { x with accepted := f.identity }) ∧
        ((∀ l, x.lastSeq = some l → (f.seq + 256 - l) % 256 ≠ 0) →
          (f.headFault = true → enters { y with state := .faulted } [.sensorChannel c .faulted]) ∧
          (f.headFault = false → f.calibrating = true → enters { y with state := .calibrating } []) ∧
          (f.headFault = false → f.calibrating = false →
            (x.state = .live → only { y with slot := slot }) ∧
            (x.state = .settling → x.goodCount < 9 → only { y with slot := slot, goodCount := x.goodCount + 1 }) ∧
            (x.state = .settling → 9 ≤ x.goodCount → enters { y with slot := slot, state := .live, goodCount := 10 } []) ∧
            (x.state = .stale ∨ x.state = .calibrating → enters { y with state := .settling, goodCount := 0 } [])))))

/-! ### The link (R15, R178 to R183) -/

/-- R15, R181, R183: the events that move one line or mark alone: a receiver's first idle gap, a request line released, or asserted
where the link is not free or the slot is BROKEN, and the start of the parked slot's frame. That the parked slot's window expires
without a change in every powered state (assumptions 11, 2), and that a line is released without supply too (assumption 2), are the
model's choices. -/
def Obligations.LineEventsTouchOnlyTheLine : Prop :=
  ∀ (s : State) (k : SlotId),
    (s.powered = true → ∀ c, exec (.receiverIdleGap c) s = .next (s.setChannel c { s.sp.get c with receiving := true })) ∧
    exec (.requestLineReleased k) s = .next (s.setArb k { s.la.slots.get k with line := false }) ∧
    ((∀ x, s.la.link ≠ .free x) ∨ (s.la.slots.get k).broken = true →
      exec (.requestLineAsserted k) s = .next (s.setArb k { s.la.slots.get k with line := true })) ∧
    (s.powered = true → exec .parkedWindowExpiry s = .next s) ∧
    (s.powered = true → s.la.link = .free (some k) → exec .parkedFrameStart s = .next { s with la := { s.la with
      link := .turn k true, level1Zero := k = 0, level2 := if k = 0 then s.la.level2 else k, lastGranted := some k } })

/-- R178, R182, R183: each time the link becomes free, or a slot enters WAITING on a free link, the rotation grants a waiting
slot, or the link is parked. -/
def Obligations.FreeLinkIsArbitrated : Prop :=
  ∀ (s : State) (k : SlotId), s.powered = true →
    ((∃ x, s.la.link = .free x) → (s.la.slots.get k).broken = false →
      ∃ b, exec (.requestLineAsserted k) s = .next { s with la := b } ∧
        { s.la with slots := s.la.slots.set k { s.la.slots.get k with line := true } }.arbitratedTo s.settings.arbiter b) ∧
    (s.la.link = .clearing →
      ∃ b, exec .linkIdleGap s = .next { s with la := b } ∧ s.la.arbitratedTo s.settings.arbiter b) ∧
    (s.la.link = .responding k → s.la.resetDue = false →
      ∃ b, exec .responseEnd s = .next { s with la := b } ∧ s.la.arbitratedTo s.settings.arbiter b)

/-- R178 to R180: each of the four misses is charged to the slot whose turn it is; three in a row make a slot from 1 to 7
BROKEN. After a frame that was too long or not complete, the link waits for an idle pair; after the others it is free. A good
frame sets its slot's miss run to 0, and nothing but the link changes before the request is judged. That a frame of the parked
slot begins its own turn is the model's choice (assumption 12). -/
def Obligations.MissesAreCounted : Prop :=
  (∀ (s u : State) (k : SlotId), s.powered = true → frameTurn s = some (k, u) →
    let free := fun c => ∃ v b, u.missedTo v k ∧ v.la.arbitratedTo s.settings.arbiter b ∧ exec c s = .next { v with la := b }
    let clearing := fun c => ∃ v, u.missedTo v k ∧ exec c s = .next { v with la := { v.la with link := .clearing } }
    (s.la.link = .turn k false → free .grantWindowExpiry) ∧
    clearing .frameTimeLimit ∧
    (∀ length : Byte, 59 < length.toNat → clearing (.frameLengthExcess length)) ∧
    ∀ chars, frameFault k chars ≠ none → free (.badFrameEnd chars)) ∧
  ∀ (s u : State) (k : SlotId), s.taken k = some u →
    u = { s with la := u.la } ∧ (∃ b, u.la.link = .turn k b) ∧
    u.la.slots.get k = { s.la.slots.get k with missRun := 0 } ∧ ∀ j, j ≠ k → u.la.slots.get j = s.la.slots.get j

/-! ### The store and the resets (R194 to R197) -/

/-- R194, R195: a save copies every setting as it stands, its completion replaces the image whole with the check value computed
over it, and a loss of power during it leaves an image that fails its check. While no save is in progress no command changes the
image or its check value, so that an image that fails goes on failing. The check value's algorithm is free (assumption 10). -/
def Obligations.StoreKeepsAWholeImage : Prop :=
  ∀ (s u : State) (k : SlotId) (params : List Byte),
    (s.admits k .storeSave params u → s.st.saving = none →
      exec (.storeSave params) s = .next (respond k okEmpty { u with st := { s.st with saving := some s.settings } })) ∧
    (s.admits k .storeSave params u → s.st.saving ≠ none →
      exec (.storeSave params) s = .next (respond k ⟨.busy, []⟩ u)) ∧
    (∀ g, s.powered = true → s.st.saving = some g →
      exec .saveCompletion s = .next { s with st := ⟨g, Config.imageCheck g, none⟩ }) ∧
    (s.powered = true → ∃ t, exec .lossOfPower s = .next t ∧ t.powered = false ∧ t.st.saving = none ∧
      (s.st.saving = none → t.st = s.st) ∧
      (s.st.saving ≠ none → Config.imageCheck t.st.image ≠ t.st.check) ∧ t.pending = s.pending ∧
      ∀ j, (t.la.slots.get j).line = (s.la.slots.get j).line) ∧
    ∀ (c : Instr) (t : State), s.st.saving = none → exec c s = .next t → t.st.image = s.st.image ∧ t.st.check = s.st.check

/-- R196: power-up empties the ring but for its GAP records, loads the image or, where that fails its check (R194), the factory
defaults, gives every block its value after power-up, and leaves the pending sets empty (R177) but for the RING of R168. The
fate of a save under way at NPOR is free: the image stands, is replaced, or fails its check (assumption 7). -/
def Obligations.PowerUpStartsThePart : Prop :=
  ∀ s : State, ∃ t, exec .powerUp s = .next t ∧ t.powered = true ∧ t.st.saving = none ∧
    (s.st.saving = none → t.st = s.st ∧ t.draws = s.draws) ∧
    (∀ g, s.st.saving = some g → t.st = { s.st with saving := none } ∨ t.st = ⟨g, Config.imageCheck g, none⟩ ∨
      Config.imageCheck t.st.image ≠ t.st.check) ∧
    let whole := Config.imageCheck t.st.image = t.st.check
    (whole → t.settings = t.st.image ∧ t.rr = RecordRing.offers ⟨[], 0, 0⟩ ⟨0, 0, false⟩ [.gap .powerUp 0]) ∧
    (¬ whole → t.settings = Settings.factory ∧
      t.rr = RecordRing.offers ⟨[], 0, 0⟩ ⟨0, 0, false⟩ [.gap .powerUp 0, .gap .storeInvalid 0]) ∧
    t.blocksStarted ∧ t.ae.handed = none ∧
    t.holdsOnly [] (if t.settings.timing.threshold ≤ t.rr.list.length then some t.rr.list.length else none) ∧
    t.su = ⟨⟨0, 0, false⟩, [], t.settings.allowance, false, ⟨none, t.settings.fallback, none⟩, none⟩ ∧
    t.ei.phase = 0 ∧ t.ei.sessionFrames = 0 ∧
    (∀ k, let x := t.ei.points.get k
      let lf := (t.settings.fallback.get (t.settings.points.get k).zone).lf
      (∀ i, x.ring.get i = 0) ∧ x.bin = 0 ∧ x.secondSum = 0 ∧ x.secondBlind = 0 ∧ x.latest = 3000 ∧ x.eS = 0 ∧
      x.sessionLimit = none ∧ x.fastEp = none ∧ x.windowEp = none ∧ x.sessionEp = none ∧ x.intervalA = 0 ∧ x.intervalC = 0 ∧
      x.intervalBlind = 0 ∧ x.intervalOverload = 0 ∧ x.intervalGap = 0 ∧ x.intervalMax = none ∧
      (lf = none → x.bucket = .full) ∧ (lf ≠ none → x.bucket = .amount 0)) ∧
    (∀ j, t.ei.stages.get j = ⟨0, 0, 3000, false⟩) ∧
    s.la.restartedTo t.settings.arbiter t.la ∧ t.pending = s.pending

/-- R197: RESET is refused BUSY during a save; answered OK, it takes effect when its response ends. The episode ends, the
session's close and the GAP records come first, then the CURFEW record of a STOP start (R88), ACCESS (CLEARED) for every slot
that was BROKEN (R185) and the ENFORCEMENT records of R159, each with its notice in pending sets that the reset emptied (R177),
and RING as R168 judges it. The clock, the phase count and the integrator's measured history stay, every bucket adjusted (R44,
R62); settings and blocks start afresh. That the rows RESPONSE_END and COMMAND_RESET are one event, and that a snapshot not yet
taken may outlive the reset, are the model's choices (assumptions 29, 34). -/
def Obligations.ResetRestartsTheBlocks : Prop :=
  ∀ (s u : State) (k : SlotId) (params : List Byte),
    (s.admits k .reset params u →
      (s.st.saving = none →
        exec (.reset params) s = .next (respond k okEmpty { u with la := { u.la with resetDue := true } })) ∧
      (s.st.saving ≠ none → exec (.reset params) s = .next (respond k ⟨.busy, []⟩ u))) ∧
    ∀ c, c = .responseEnd ∨ c = .commandReset → s.powered = true → s.la.link = .responding k → s.la.resetDue = true →
      ∃ t, exec c s = .next t ∧
        t.powered = true ∧ t.st = { s.st with saving := none } ∧
        t.settings = (if Config.imageCheck s.st.image = s.st.check then s.st.image else Settings.factory) ∧
        (let clock := s.su.clock
        let ends := allPoints.flatMap fun j => endRecord j .fast (s.ei.points.get j).fastEp ++
          endRecord j .window (s.ei.points.get j).windowEp ++ endRecord j .session (s.ei.points.get j).sessionEp
        let close := (s.su.session.map fun q => RecordBody.sessionClosed q.slot q.fS .reset).toList
        let ended := s.rr.offers clock (ends ++ close)
        let marked := ended.offer clock (.gap .commandReset ended.lost)
        let loaded := if Config.imageCheck s.st.image = s.st.check then marked
          else marked.offer clock (.gap .storeInvalid marked.lost)
        let stop := if s.su.limits.stop = none then t.su.limits.stop.toList else []
        let cleared := allSlots.filter fun j => (s.la.slots.get j).broken
        let held := fun (g : Grant) => g.compliance = .enforced ∨ g.compliance = .releasing ∨ g.forced = true
        let holds := allStages.filterMap fun v => if (t.settings.stages.get v).enabled = true then some (v, LineChange.asserted, Cause.powerUp)
          else if held (s.gu.grants.get v) then
            some (v, LineChange.released, if (s.gu.grants.get v).forced = true then Cause.unforced else Cause.disabled)
          else none
        let threshold := t.settings.timing.threshold
        t.rr = loaded.offers clock (stop.map .curfewStop ++ cleared.map (fun j => .access j .cleared 0) ++
          holds.map fun x => .enforcement x.1 x.2.1 x.2.2 (t.settings.stages.get x.1).floor .blind) ∧
        t.holdsOnly (stop.map .curfewStop ++ cleared.map (fun j => .access j .cleared) ++ holds.map fun x => .hold x.1 x.2.1 x.2.2)
          (if s.rr.list.length < s.settings.timing.threshold ∧ threshold ≤ loaded.list.length then some loaded.list.length
            else if loaded.list.length < threshold ∧ threshold ≤ t.rr.list.length then some threshold else none)) ∧
        t.blocksStarted ∧ (t.ae.handed = s.ae.handed ∨ t.ae.handed = none) ∧
        t.su.clock = s.su.clock ∧ t.su.session = none ∧ t.su.pendingList = [] ∧ t.su.commit = false ∧
        t.su.pendingAllowance = t.settings.allowance ∧ t.su.limits = t.newLimits ∧
        t.ei.phase = s.ei.phase ∧ t.ei.stages = s.ei.stages ∧ t.ei.sessionFrames = 0 ∧
        (∀ j, t.ei.points.get j = { s.ei.points.get j with
          bucket := (s.ei.points.get j).bucket.fittedTo (t.limitsOf j).lf t.settings.timing.depth
          sessionLimit := none, fastEp := none, windowEp := none, sessionEp := none }) ∧
        s.la.restartedTo t.settings.arbiter t.la ∧ t.pending = s.pending

/-! ### The clock and the limits in force (R63, R68 to R70, R78, R79) -/

/-- R68, R70: with a valid clock the limits in force are those of the last period that starts at or before the minute of day, of the
last period of all where none does; with an invalid clock those of the fallback record. -/
def Obligations.PeriodInForceGivesTheLimits : Prop :=
  ∀ s : State,
    (s.su.clock.valid = false → s.newLimits = ⟨none, s.settings.fallback, none⟩) ∧
    (s.su.clock.valid = true → s.settings.schedule ≠ [] → ∃ i q, s.settings.schedule[i]? = some q ∧
      s.newLimits = ⟨some i, q.zones, if q.kind = .stop then some q.start else none⟩ ∧
      ((q.start ≤ s.su.clock.secs / 60 ∧ ∀ (j : Nat) x, i < j → s.settings.schedule[j]? = some x → s.su.clock.secs / 60 < x.start) ∨
        (i + 1 = s.settings.schedule.length ∧ ∀ x ∈ s.settings.schedule, s.su.clock.secs / 60 < x.start)))

/-- R63, R78, R79: the clock counts a second. At a clock minute boundary a committed pending schedule is checked, adopted or
rejected with its SCHEDULE record and notice, and dropped; then the limits in force are recomputed, with the adjustments,
episode ends and the CURFEW record of R44, R71 and R72. The row CLOCK_MINUTE_BOUNDARY is that advance (assumption 1), several
ends of one recomputation stand in point and tier order (assumption 15), and the CURFEW record comes before them or after
(assumption 6): the model's choices. -/
def Obligations.ClockAdvances : Prop :=
  ∀ s : State, s.powered = true →
    let c : Time := if 86399 ≤ s.su.clock.secs then ⟨(s.su.clock.day + 1) % 65536, 0, s.su.clock.valid⟩
      else ⟨s.su.clock.day, s.su.clock.secs + 1, s.su.clock.valid⟩
    let ticked := { s with su := { s.su with clock := c } }
    let n := s.su.pendingList.length
    let dropped := { ticked.su with pendingList := [], commit := false }
    (c.secs % 60 ≠ 0 → exec .clockAdvance s = .next ticked ∧ exec .clockMinuteBoundary s = .next s) ∧
    (c.secs % 60 = 0 → ∃ t, exec .clockAdvance s = .next t ∧ exec .clockMinuteBoundary s = .next t ∧
      (s.su.commit = false → ticked.recomputedTo t) ∧
      (s.su.commit = true → ∃ m reason, scheduleVerdict s.su.pendingList s.su.pendingAllowance reason ∧
        ticked.tells m [.schedule reason n] [.schedule reason] ∧
        m = { ticked with settings := m.settings, su := m.su, rr := m.rr, nu := m.nu } ∧
        (reason = none →
          m.settings = { s.settings with schedule := s.su.pendingList, allowance := s.su.pendingAllowance } ∧ m.su = dropped) ∧
        (reason ≠ none → m.settings = s.settings ∧ m.su = { dropped with pendingAllowance := s.settings.allowance }) ∧
        m.recomputedTo t))

/-! ### The frame boundary (R24, R30, R37 to R59) -/

/-- R30: the powers a point hands over at a boundary: those of its substitute level while BLIND, else the means of its source
channel's slot, or the held powers where that slot is empty. -/
def Obligations.SourceGivesTheFramePower : Prop :=
  ∀ (s : State) (k : PointId), s.settings.bindingsDistinct →
    let v := s.pm.points.get k
    let sub := p (s.settings.points.get k).substitute
    (v.source = .blind → s.framePowers k = ⟨sub, sub, 0, 0, true⟩) ∧
    ∀ (c : ChannelId) (b : Binding), (s.settings.channelMap.get c).binding = b →
      (v.source = .primary ∧ b = .primary k) ∨ (v.source = .standby ∧ b = .standby k) →
      let q := (s.sp.get c).slot
      (q.count = 0 → s.framePowers k = ⟨v.heldA, v.heldC, 0, 0, false⟩) ∧
      (q.count ≠ 0 → s.framePowers k = ⟨q.aSum / q.count, q.cSum / q.count, q.overload, q.gap, false⟩)

/-- R24, R30, R32, R39, R40, R49: at a boundary every enabled point's frame power joins its second sum, its bin, its interval
sums and, in a session, its session accumulator, before the closes that empty them; a disabled point takes nothing and keeps its
sums but for those closes. A seeing reference hands over its slot's mean, or its held power where the slot is empty, and holds
what it handed over; a blind one keeps what it held. Every bound channel's slot is emptied. Settings, clock, limits and link
stay. -/
def Obligations.BoundaryAccountsEnergy : Prop :=
  ∀ s : State, s.powered = true → ∃ t, exec .frameBoundary s = .next t ∧
    let n := if 3000 ≤ s.ei.phase then 1 else s.ei.phase + 1
    t.ei.phase = n ∧
    (∀ c, t.sp.get c = if (s.settings.channelMap.get c).binding = .unused then s.sp.get c
      else { s.sp.get c with slot := ⟨0, 0, 0, 0, 0⟩ }) ∧
    (∀ k, let x := s.ei.points.get k
      let y := t.ei.points.get k
      let f := s.framePowers k
      let on := (s.settings.points.get k).enabled = true
      let take := fun (a b : Nat) => if on then a + b else a
      t.pm.points.get k = (if on then { s.pm.points.get k with heldA := f.a, heldC := f.c } else s.pm.points.get k) ∧
      y.eS = (if s.sessionIsOpen = true then take x.eS f.a else x.eS) ∧
      (n % 600 ≠ 0 → y.bin = take x.bin f.a ∧ y.ring = x.ring) ∧
      (n % 600 = 0 → y.bin = 0 ∧ y.ring.cells.toList = x.ring.cells.toList.tail ++ [take x.bin f.a]) ∧
      (n % 10 ≠ 0 → y.secondSum = take x.secondSum f.a ∧ y.secondBlind = take x.secondBlind (if f.blind = true then 1 else 0) ∧
        y.latest = x.latest ∧ y.intervalMax = x.intervalMax) ∧
      (n ≠ 3000 → on → y.intervalA = x.intervalA + f.a ∧ y.intervalC = x.intervalC + f.c ∧
        y.intervalBlind = min 65535 (x.intervalBlind + if f.blind = true then 1 else 0) ∧
        y.intervalOverload = min 65535 (x.intervalOverload + f.overload) ∧
        y.intervalGap = min 65535 (x.intervalGap + f.gap)) ∧
      (n ≠ 3000 → ¬ on → y.intervalA = x.intervalA ∧ y.intervalC = x.intervalC ∧ y.intervalBlind = x.intervalBlind ∧
        y.intervalOverload = x.intervalOverload ∧ y.intervalGap = x.intervalGap ∧ y.intervalMax = x.intervalMax) ∧
      (¬ on → y.secondSum = x.secondSum ∧ y.secondBlind = x.secondBlind ∧ y.latest = x.latest) ∧
      (n = 3000 → y.intervalA = 0 ∧ y.intervalC = 0 ∧ y.intervalBlind = 0 ∧ y.intervalOverload = 0 ∧ y.intervalGap = 0 ∧
        y.intervalMax = none)) ∧
    (∀ u, let q := s.pm.refs.get u
      let r := t.pm.refs.get u
      let x := s.ei.stages.get u
      (q.seeing = false ∨ (∀ c, (s.settings.channelMap.get c).binding ≠ .reference u) → r = q) ∧
      (∀ c, s.settings.bindingsDistinct → (s.settings.channelMap.get c).binding = .reference u → q.seeing = true →
        let slot := (s.sp.get c).slot
        r = ⟨true, if slot.count = 0 then q.held else slot.aSum / slot.count⟩) ∧
      (n % 10 ≠ 0 → t.ei.stages.get u =
        if q.seeing = true then { x with secondSum := x.secondSum + r.held, seeingCount := x.seeingCount + 1 } else x)) ∧
    t = { s with
      sp := t.sp, pm := t.pm, ei := t.ei, su := { s.su with session := t.su.session }, cs := t.cs, ae := t.ae, gu := t.gu
      rr := t.rr, nu := t.nu, draws := t.draws }

/-- R43, R45, R47, R49 to R53: the bucket takes each frame; the fast tier is EXCEEDED below 0 and CLEAR again at an eighth of
C_F; the session tier is EXCEEDED above S_tot until the session closes, at its last frame too, where an episode open or newly
started has its end record; the window tier is judged at minute closes and counts between them. Starts and ends are recorded,
and nothing else of a tier is. A disabled point keeps its bucket and its episodes, but for the session's end. -/
def Obligations.TiersAreTestedAtTheBoundary : Prop :=
  ∀ (s : State), s.powered = true → ∃ t bodies, exec .frameBoundary s = .next t ∧ t.rr = s.rr.offers s.su.clock bodies ∧ ∀ k,
    let n := if 3000 ≤ s.ei.phase then 1 else s.ei.phase + 1
    let x := s.ei.points.get k
    let y := t.ei.points.get k
    let e := (s.framePowers k).a
    let second := lv ((x.secondSum + e) / 10 : Nat)
    let peaked := fun (q : Option Nat) => if n % 10 = 0 then some (max (q.getD 0) second) else q
    let frames := fun (q : Episode) => min 4294967295 (q.frames + 1)
    let later := fun (q : Episode) => (⟨q.start, peaked q.peak, frames q⟩ : Episode)
    let starts := fun (tier : Tier) (now : Prop) (level limit : Nat) =>
      ∀ l m, .exceedanceStart k tier l m ∈ bodies ↔ now ∧ l = level ∧ m = limit
    let ends := fun (tier : Tier) (now : Prop) (peak frames : Nat) =>
      ∀ l d, .exceedanceEnd k tier l d ∈ bodies ↔ now ∧ l = peak ∧ d = frames / 10
    let unrecorded := fun tier => starts tier False 0 0 ∧ ends tier False 0 0
    let lasts := s.sessionIsOpen = true ∧ 2 ≤ s.ei.sessionFrames
    let finishes := s.sessionIsOpen = true ∧ s.ei.sessionFrames ≤ 1
    ((s.settings.points.get k).enabled = false → y.bucket = x.bucket ∧ y.fastEp = x.fastEp ∧ y.windowEp = x.windowEp ∧
      unrecorded .fast ∧ unrecorded .window ∧ starts .session False 0 0 ∧
      (¬ finishes → y.sessionEp = x.sessionEp) ∧ (x.sessionEp = none → ends .session False 0 0) ∧
      ∀ q, x.sessionEp = some q → ends .session finishes (q.peak.getD q.start) q.frames) ∧
    ((s.settings.points.get k).enabled = true →
      ((s.limitsOf k).lf = none → y.bucket = x.bucket ∧ y.fastEp = x.fastEp.map later ∧ unrecorded .fast) ∧
      (∀ lf, (s.limitsOf k).lf = some lf → ∀ b, x.bucket = .amount b →
        let full : Int := p lf * s.settings.timing.depth
        let b' := max (-full) (min full (b + p lf) - e)
        y.bucket = .amount b' ∧
        (x.fastEp = none → y.fastEp = (if b' < 0 then some ⟨lv e, peaked none, 0⟩ else none) ∧
          starts .fast (b' < 0) (lv e) lf ∧ ends .fast False 0 0) ∧
        ∀ q, x.fastEp = some q → y.fastEp = (if full / 8 ≤ b' then none else some (later q)) ∧
          starts .fast False 0 0 ∧ ends .fast (full / 8 ≤ b') (q.peak.getD q.start) (frames q)) ∧
      (x.sessionLimit = none → x.sessionEp = none → y.sessionEp = none ∧ unrecorded .session) ∧
      (finishes → y.sessionEp = none ∧ y.sessionLimit = none) ∧
      (∀ q, x.sessionLimit = some q → s.sessionIsOpen = true →
        let above := q.total < x.eS + e
        (x.sessionEp = none → starts .session above (lv e) q.ls ∧ ends .session (above ∧ finishes) (lv e) 0 ∧
          (lasts → y.sessionEp = if above then some ⟨lv e, peaked none, 0⟩ else none)) ∧
        ∀ ep, x.sessionEp = some ep → starts .session False 0 0 ∧ ends .session finishes (ep.peak.getD ep.start) (frames ep) ∧
          (lasts → y.sessionEp = some (later ep))) ∧
      ((s.limitsOf k).window = none ∨ n % 600 ≠ 0 → unrecorded .window ∧
        y.windowEp = x.windowEp.map fun q => { q with frames := frames q }) ∧
      ∀ w, (s.limitsOf k).window = some w → n % 600 = 0 →
        let leq := lv ((y.ring.cells.toList.drop (60 - w.n)).sum / (w.n * 600) : Nat)
        (x.windowEp = none → y.windowEp = (if w.lw < leq then some ⟨leq, some leq, 0⟩ else none) ∧
          starts .window (w.lw < leq) leq w.lw ∧ ends .window False 0 0) ∧
        ∀ q, x.windowEp = some q →
          let peak := max (q.peak.getD leq) leq
          y.windowEp = (if leq + 100 ≤ w.lw then none else some ⟨q.start, some peak, frames q⟩) ∧
          starts .window False 0 0 ∧ ends .window (leq + 100 ≤ w.lw) peak (frames q))

/-- R37, R38, R49, R51 to R59, R96, R102, R104, R110: what a boundary is beside: a session's end; a second close with its levels
and its snapshot, which the survey counts and the engine takes before that, after it or, left waiting, later (free: assumptions
4, 25); an interval close with its summaries. Its records stand in the order of R54: the frames' point by point, the session's
end, the windows', the summaries, an approach. The notices are those of these records and of a survey that ends, and RING where
the threshold is crossed (R168); no other notice and no enable changes (R172). Each row of the table that names such a boundary
is that boundary where the next one is it, and changes nothing otherwise (the model's choice, assumption 1). -/
def Obligations.BoundaryClosesInOrder : Prop :=
  ∀ (s : State), s.powered = true →
    let n := if 3000 ≤ s.ei.phase then 1 else s.ei.phase + 1
    ∃ t, exec .frameBoundary s = .next t ∧
    exec .secondClose s = (if n % 10 = 0 then .next t else .next s) ∧
    exec .minuteClose s = (if n % 600 = 0 then .next t else .next s) ∧
    exec .intervalClose s = (if n = 3000 then .next t else .next s) ∧
    exec .sessionEnd s = (if s.sessionIsOpen = true ∧ s.ei.sessionFrames ≤ 1 then .next t else .next s) ∧
    let approach := if t.ae.approach = s.ae.approach then [] else t.ae.approach.toList
    let bodies := allPoints.flatMap s.frameRecords ++ (if s.ei.sessionFrames ≤ 1 then s.su.session.toList.flatMap s.closeRecords else []) ++
      (if n % 600 = 0 then allPoints.flatMap fun k => s.windowRecords k (t.ei.points.get k) else []) ++
      (if n = 3000 then allPoints.flatMap s.summaryRecords else []) ++ approach.map .curfewApproach
    let surveyed := if (s.cs.state = .quiet ∨ s.cs.state = .signal) ∧ (t.cs.state = .done ∨ t.cs.state = .aborted) then
        [Notice.survey (if t.cs.state = .done then none else t.cs.reason) s.cs.stage]
      else []
    s.tells t bodies (bodies.filterMap RecordBody.boundaryNotice ++ surveyed) ∧
    (∀ q, s.su.session = some q →
      (2 ≤ s.ei.sessionFrames → t.su.session = some q ∧ t.ei.sessionFrames = s.ei.sessionFrames - 1 ∧ t.gu = s.gu) ∧
      (s.ei.sessionFrames ≤ 1 → t.su.session = none ∧ t.ei.sessionFrames = 0 ∧
        (∀ u, t.gu.grants.get u = { s.gu.grants.get u with session := false }) ∧
        t.gu.approach = s.gu.approach ∧ t.gu.curfew = s.gu.curfew ∧
        ∀ k, (t.ei.points.get k).sessionLimit = none ∧ (t.ei.points.get k).sessionEp = none)) ∧
    (s.su.session = none → t.su.session = none ∧ t.ei.sessionFrames = s.ei.sessionFrames ∧ t.gu = s.gu) ∧
    (n % 10 ≠ 0 → t.ae = s.ae ∧ t.cs = s.cs) ∧
    (n % 10 = 0 →
      (∀ k, let x := s.ei.points.get k
        let y := t.ei.points.get k
        let m := (x.secondSum + (s.framePowers k).a) / 10
        if (s.settings.points.get k).enabled = true then
          y.latest = lv m ∧ y.secondSum = 0 ∧ y.secondBlind = 0 ∧
          (n ≠ 3000 → y.intervalMax = some (max (x.intervalMax.getD 0) (lv m)))
        else y.latest = x.latest) ∧
      let count := fun u => (s.ei.stages.get u).seeingCount + (if (s.pm.refs.get u).seeing = true then 1 else 0)
      let sum := fun u => (s.ei.stages.get u).secondSum + if (s.pm.refs.get u).seeing = true then (t.pm.refs.get u).held else 0
      (∀ u, let x := s.ei.stages.get u
        let y := t.ei.stages.get u
        y.secondSum = 0 ∧ y.seeingCount = 0 ∧ (y.lastSeeing = true ↔ count u = 10) ∧
        (count u = 10 → y.latest = lv (sum u / 10 : Nat)) ∧ (count u ≠ 10 → y.latest = x.latest)) ∧
      ∃ snap : Snapshot,
        snap.f = 600 - n % 600 ∧ snap.fS = t.ei.sessionFrames ∧ snap.sessionOpen = t.sessionIsOpen ∧
        (∀ k, let x := s.ei.points.get k
          let y := t.ei.points.get k
          let q := s.settings.points.get k
          let on := q.enabled = true
          let length := ((s.limitsOf k).window.map (·.n)).getD 0
          snap.points.get k = {
            enabled := q.enabled, zone := q.zone
            power := if on then some ((x.secondSum + (s.framePowers k).a) / 10) else none
            energy := if on then x.secondSum + (s.framePowers k).a else x.secondSum
            blind := if on ∧ (s.framePowers k).blind = true then x.secondBlind + 1 else x.secondBlind
            bucket := y.bucket, nUsed := length, sPrev := (y.ring.cells.toList.drop (60 - (length - 1))).sum
            eCur := y.bin, eS := y.eS }) ∧
        (∀ u, snap.stages.get u = if count u = 10 then ⟨.seeing (lv (sum u / 10 : Nat)), sum u⟩ else ⟨.blind, 0⟩) ∧
        s.cs.counts s.settings.stages snap t.cs ∧
        (t.ae = { s.ae with handed := some snap } ∨
          s.ae.pass = none ∧ ∃ target, (s.cs.publishes target ∨ t.cs.publishes target) ∧ t.takes s.ae target snap t.ae))

/-! ### The allocation pass (R118 to R130) -/

/-- R118 to R121: each tier's allowance spends no more than the tier has left over the frames left, and no less but for the
floor; a point's allowance is the least of those of the tiers present, the first of equal ones in the order F, W, S. R122, R123:
what the enabled stages bring to a point by their couplings is taken from its power, and what the allowance leaves above that
background is available. R125: the playing stages together are lent no more than the idle stages' shares, each in proportion to
its own, floored; an idle stage keeps its own. That a pair without a coupling code brings nothing is the model's choice
(assumption 16). -/
def Obligations.AllowancesAndSharesAreBounded : Prop :=
  (∀ (lf depth horizon : Nat) (b : Bucket), 1 ≤ horizon →
    let full : Int := p lf * depth
    let content : Int := match b with
      | .full => full
      | .amount x => max (-full) (min full x)
    let a : Int := fastAllowance lf depth horizon b
    (a = 0 ∨ (a - p lf) * horizon ≤ content) ∧ content < (a + 1 - p lf) * horizon) ∧
  (∀ lw n sPrev eCur f : Nat, 1 ≤ f →
    let a := windowAllowance lw n sPrev eCur f
    (a = 0 ∨ sPrev + eCur + a * f ≤ p lw * n * 600) ∧ p lw * n * 600 < sPrev + eCur + (a + 1) * f) ∧
  (∀ ls total eS fS : Nat, 1 ≤ fS →
    let a := sessionAllowance ls total eS fS
    (a = 0 ∨ eS + a * fS ≤ p ls * total) ∧ p ls * total < eS + (a + 1) * fS) ∧
  (∀ (i : PassInputs) (k : PointId) (a : Nat),
    let q := i.snap.points.get k
    let z := i.zones.get q.zone
    ((a, Tier.fast) ∈ i.allowances k ↔ ∃ lf, z.lf = some lf ∧ a = fastAllowance lf i.depth i.horizon q.bucket) ∧
    ((a, Tier.window) ∈ i.allowances k ↔
      ∃ w, z.window = some w ∧ 1 ≤ q.nUsed ∧ a = windowAllowance w.lw q.nUsed q.sPrev q.eCur i.snap.f) ∧
    ((a, Tier.session) ∈ i.allowances k ↔
      ∃ x ls, i.session = some x ∧ x.ls.get q.zone = some ls ∧ a = sessionAllowance ls x.fS q.eS i.snap.fS)) ∧
  (∀ (i : PassInputs) (k : PointId),
    (i.pointAllowance k = none ↔ (i.snap.points.get k).enabled = false ∨ i.allowances k = []) ∧
    ∀ a tier, i.pointAllowance k = some (a, tier) →
      (i.snap.points.get k).enabled = true ∧ (a, tier) ∈ i.allowances k ∧
        ∀ x ∈ i.allowances k, a < x.1 ∨ (a = x.1 ∧ tierValues.idxOf tier ≤ tierValues.idxOf x.2)) ∧
  (∀ (i : PassInputs) (t : StageId) (k : PointId),
    let level := match (i.snap.stages.get t).second with
      | .seeing l => l
      | .blind => i.ceilings.get t
    (∀ c, (i.stages.get t).enabled = true → (i.coupling.get t).get k = some c → i.contribution t k = p (level + c)) ∧
    ((i.stages.get t).enabled = false ∨ (i.coupling.get t).get k = none → i.contribution t k = 0)) ∧
  (∀ (i : PassInputs) (k : PointId) (m : Nat), (i.snap.points.get k).power = some m →
    let sum := i.contribution 0 k + i.contribution 1 k + i.contribution 2 k + i.contribution 3 k
    (sum ≤ m → i.background k + sum = m) ∧ (m < sum → i.background k = 0)) ∧
  (∀ (i : PassInputs) (c : Constrained), c ∈ i.constrained ↔
    i.pointAllowance c.point = some (c.allowance, c.tier) ∧ c.background = i.background c.point ∧
    (c.background ≤ c.allowance → c.available + c.background = c.allowance) ∧ (c.allowance < c.background → c.available = 0)) ∧
  (∀ (i : PassInputs) (t : StageId),
    (i.isIdle t = true ↔ (i.stages.get t).enabled = true ∧ ∃ a, i.activity.get t = some a ∧ a.idle = true) ∧
    (i.isPlaying t = true ↔ (i.stages.get t).enabled = true ∧ i.isIdle t = false)) ∧
  ∀ i : PassInputs,
    let idle := ((allStages.filter i.isIdle).map fun t => (i.stages.get t).share).sum
    let playing := ((allStages.filter i.isPlaying).map fun t => (i.stages.get t).share).sum
    ((allStages.filter i.isPlaying).map i.effectiveShare).sum ≤ playing + idle ∧
    (∀ t, (i.stages.get t).enabled = true → i.isIdle t = true → i.effectiveShare t = (i.stages.get t).share) ∧
    (∀ t, i.isPlaying t = true → 0 < playing →
      i.effectiveShare t = (i.stages.get t).share + (i.stages.get t).share * idle / playing) ∧
    (playing = 0 → ∀ t, i.effectiveShare t = (i.stages.get t).share)

/-- R112, R126 to R131: the target is the floor under STOP, the survey level or the floor while no session counts, and otherwise
between floor and top, above the floor only as far as every constrained point's level (R126) and the curfew line allow, and no
lower than that: every level that the top, the constrained points and the line all permit is at or below the target. The
constraint named is the one that set it. That a pair without a coupling code sets no level (assumption 16), and that no tier is
named at the top and a target equal to floor or top has that mark (assumption 17), are the model's choices. -/
def Obligations.TargetsRespectEveryAllowance : Prop :=
  ∀ (i : PassInputs) (t : StageId),
    let g := i.stages.get t
    let target := (i.select t).1
    let kind := (i.select t).2.1
    i.names t (i.select t).2.2 ∧
    (i.isOpen = true ↔ i.snap.sessionOpen = true ∧ i.session ≠ none) ∧
    (i.curfew.stop = true → target = g.floor ∧ kind = .stop) ∧
    (i.curfew.stop = false → i.isOpen = false →
      (∀ l, i.target = some (t, l) → target = clampTo g.floor g.top l ∧ kind = .survey) ∧
      ((∀ l, i.target ≠ some (t, l)) → target = g.floor ∧ kind = .closed)) ∧
    (i.curfew.stop = false → i.isOpen = true → g.floor ≤ g.top →
      let allowed := fun (l : Int) => ∃ c ∈ i.constrained, ∃ x, (i.coupling.get t).get c.point = some x ∧
        let a := c.available * i.effectiveShare t / 256
        (a = 0 → l = 0) ∧ (a ≠ 0 → l = lv a - x)
      let line := fun (l : Nat) => ∃ n, i.curfew.next = some n ∧ 1 ≤ n.ramp ∧ n.t ≤ n.ramp * 60 ∧
        l = g.floor + (g.top - g.floor) * n.t / (n.ramp * 60)
      g.floor ≤ target ∧ target ≤ g.top ∧
      (kind = .approach ↔ ∃ l, line l ∧ (∀ x, allowed x → (l : Int) < x) ∧ ((∀ x, ¬ allowed x) → l < g.top)) ∧
      (target = g.floor ∨ ((∀ x, allowed x → (target : Int) ≤ x) ∧ ∀ l, line l → target ≤ l)) ∧
      (∀ x : Nat, x ≤ g.top → (∀ l, allowed l → (x : Int) ≤ l) → (∀ l, line l → x ≤ l) → x ≤ target) ∧
      (target = g.top ∨ target = g.floor ∨ allowed target ∨ line target) ∧
      (kind = .allocated ∨ kind = .approach))

/-! ### The grant unit (R134 to R153) -/

/-- R113, R132, R136 to R138, R146, R147, R149, R153, R154: the grant unit takes a result: each stage's overrun is judged against
the ceiling as it stood, the ceiling moves by slew or at once, clamped, and the compliance state follows; an overrun in ENFORCED
restarts the count alone. The stages that enter ENFORCED have their ENFORCEMENT records and HOLD notices, those lowered their
LOWERED notices, in stage order, and nothing else is offered or posted. A stage without an entry stays. The figures become those
of this pass. A snapshot that still waits is taken first (R110). That the ENFORCEMENT record of an overrun gives the second of
this very result (assumption 21), that a waiting snapshot is taken at the latest here (assumption 25), and that nothing happens
with none (assumption 2), are the model's choices. -/
def Obligations.PassResultMovesCeilings : Prop :=
  ∀ s : State, s.powered = true →
  (∀ snap, s.ae.pass = none → s.ae.handed = some snap →
    ∃ m, s.passStarts m snap ∧ exec .passResult s = exec .passResult m) ∧
  (s.ae.pass = none → s.ae.handed = none → exec .passResult s = .next s) ∧
  ∀ i : PassInputs, s.ae.pass = some i → ∃ t, exec .passResult s = .next t ∧
    t.gu.approach = i.approach ∧ t.gu.curfew = i.curfew ∧
    (∃ f : Figures, t.ae = { s.ae with figures := some f, pass := none } ∧
      (∀ u, (i.dropped.get u = true ∨ (i.stages.get u).enabled = false → f.stages.get u = none) ∧
        (i.dropped.get u = false → (i.stages.get u).enabled = true → f.stages.get u = some ⟨(i.select u).1, (i.select u).2.1,
          (i.snap.stages.get u).second, i.isIdle u, if i.isOpen = true then i.effectiveShare u else (i.stages.get u).share,
          (i.select u).2.2⟩)) ∧
      (i.isOpen = false → f.points = none) ∧
      (i.isOpen = true → ∃ b, f.points = some b ∧ ∀ k,
        ((i.snap.points.get k).enabled = false → b.get k = none) ∧
        ((i.snap.points.get k).enabled = true → i.pointAllowance k = none → b.get k = some .unconstrained) ∧
        ∀ c ∈ i.constrained, c.point = k → b.get k = some (.constrained ⟨lv c.allowance, c.tier, lv c.background, lv c.available⟩))) ∧
    t = { s with ae := t.ae, gu := t.gu, rr := t.rr, nu := t.nu } ∧
    let set := s.settings.timing
    let taken := fun u => i.dropped.get u = false ∧ (i.stages.get u).enabled = true ∧ (s.settings.stages.get u).enabled = true
    let second := fun u => (i.snap.stages.get u).second
    let loud := fun u => ∃ l, second u = .seeing l ∧ (s.gu.grants.get u).c + set.overrunMargin < l
    let overruns := fun u => loud u ∧ set.overrunCount ≤ (s.gu.grants.get u).overrun + 1
    let within := fun u => ∃ a, (t.gu.grants.get u).applied = some a ∧ a ≤ (t.gu.grants.get u).c + 50 ∧ a ≤ (s.settings.stages.get u).top
    let enters := fun u => taken u ∧ overruns u ∧ (s.gu.grants.get u).compliance ≠ .enforced
    let lowered := fun u => let g := s.gu.grants.get u
      let c := (t.gu.grants.get u).c
      taken u ∧ ¬ overruns u ∧ c ≠ g.c ∧ ¬ within u ∧
      (g.compliance = .tracking ∨ (g.compliance = .pending ∧ c < g.c) ∨
        (g.compliance = .releasing ∧ (g.complianceTimer = none ∨ c < g.c)))
    (∃ entering lowering : List StageId, entering.Pairwise (· < ·) ∧ (∀ u, u ∈ entering ↔ enters u) ∧
      lowering.Pairwise (· < ·) ∧ (∀ u, u ∈ lowering ↔ lowered u) ∧
      s.tells t (entering.map fun u => .enforcement u .asserted .overrun (t.gu.grants.get u).c (second u))
        (entering.map (fun u => .hold u .asserted .overrun) ++ lowering.map fun u => .lowered u (t.gu.grants.get u).c)) ∧
    ∀ u, let g := s.gu.grants.get u
      let h := t.gu.grants.get u
      let q := s.settings.stages.get u
      (¬ taken u → h = g) ∧
      (taken u →
        let target := (i.select u).1
        let kind := (i.select u).2.1
        let moved := if kind = .allocated ∨ kind = .approach then
            (if target < g.c then max target (g.c - set.downRate) else min target (g.c + set.upRate))
          else target
        h.c = clampTo q.floor q.top moved ∧ h.t = clampTo q.floor q.top target ∧ h.kind = kind ∧ h.last = second u ∧
        h.applied = g.applied ∧ h.forced = g.forced ∧ h.session = g.session ∧
        (¬ loud u → h.overrun = 0) ∧ (overruns u → h.overrun = 0) ∧ (loud u → ¬ overruns u → h.overrun = g.overrun + 1) ∧
        (overruns u → h.compliance = .enforced) ∧
        (enters u → h.cause = some .overrun ∧ h.complianceTimer = none ∧ h.holdTimer = none) ∧
        (overruns u → g.compliance = .enforced →
          h.cause = g.cause ∧ h.complianceTimer = g.complianceTimer ∧ h.holdTimer = g.holdTimer) ∧
        (¬ overruns u → h.cause = g.cause ∧ h.holdTimer = g.holdTimer) ∧
        (¬ overruns u → (h.c = g.c ∨ g.compliance = .enforced ∨ g.compliance = .disabled) →
          h.compliance = g.compliance ∧ h.complianceTimer = g.complianceTimer) ∧
        (¬ overruns u → h.c ≠ g.c →
          (g.compliance = .tracking → within u → h.compliance = .tracking ∧ h.complianceTimer = g.complianceTimer) ∧
          (g.compliance = .tracking → ¬ within u → h.compliance = .pending ∧ h.complianceTimer = some set.deadline) ∧
          (g.compliance = .pending → within u → h.compliance = .tracking ∧ h.complianceTimer = none) ∧
          (g.compliance = .pending → ¬ within u → h.compliance = .pending ∧ h.complianceTimer = g.complianceTimer) ∧
          (g.compliance = .releasing → h.compliance = .releasing ∧ (within u → h.complianceTimer = none) ∧
            (¬ within u → h.complianceTimer = some (g.complianceTimer.getD set.deadline)))))

/-- R146 to R148: a compliance deadline that passes enforces the stage, cause ACK_TIMEOUT; the hold minimum's end returns it to
TRACKING, or to PENDING while the compliance timer runs, and releases the line unless the hold is forced. That a stopped timer's
expiry leaves the state is the model's choice (assumption 2). -/
def Obligations.GrantTimersExpire : Prop :=
  ∀ (s : State) (u : StageId), s.powered = true →
    let g := s.gu.grants.get u
    let becomes := fun c h bodies notices => ∃ t, exec c s = .next t ∧
      t.gu = { s.gu with grants := s.gu.grants.set u h } ∧ s.tells t bodies notices ∧
      t = { s with gu := t.gu, rr := t.rr, nu := t.nu }
    (g.complianceTimer ≠ none → g.compliance = .pending ∨ g.compliance = .releasing →
      becomes (.complianceTimerExpiry u)
        { g with compliance := .enforced, cause := some .ackTimeout, complianceTimer := none, holdTimer := none }
        [.enforcement u .asserted .ackTimeout g.c g.last] [.hold u .asserted .ackTimeout]) ∧
    (g.complianceTimer = none → exec (.complianceTimerExpiry u) s = .next s) ∧
    (g.holdTimer ≠ none → g.compliance = .releasing →
      becomes (.holdMinimumExpiry u)
        { g with compliance := if g.complianceTimer = none then .tracking else .pending, holdTimer := none }
        (if g.forced = true then [] else [.enforcement u .released .holdMinDone g.c g.last])
        (if g.forced = true then [] else [.hold u .released .holdMinDone])) ∧
    (g.holdTimer = none → exec (.holdMinimumExpiry u) s = .next s)

/-- R152, R153: HOLD_FORCE and HOLD_UNFORCE set and clear the forced hold; a record and a notice go with each change of the line. -/
def Obligations.HoldIsForcedAndFreed : Prop :=
  ∀ (s w : State) (k : SlotId) (params : List Byte) (u : StageId), readIndex 4 params = some u →
    let g := s.gu.grants.get u
    let pads := g.compliance = .enforced ∨ g.compliance = .releasing
    let becomes := fun c forced bodies notices => ∃ v, exec c s = .next (respond k okEmpty v) ∧
      v.gu = { s.gu with grants := s.gu.grants.set u { g with forced := forced } } ∧ w.tells v bodies notices ∧
      v = { w with gu := v.gu, rr := v.rr, nu := v.nu }
    (s.admits k .holdForce params w →
      (pads ∨ g.forced = true → becomes (.holdForce params) true [] []) ∧
      (¬ pads → g.forced = false → becomes (.holdForce params) true
        [.enforcement u .asserted .forced g.c g.last] [.hold u .asserted .forced])) ∧
    (s.admits k .holdUnforce params w →
      (pads ∨ g.forced = false → becomes (.holdUnforce params) false [] []) ∧
      (¬ pads → g.forced = true → becomes (.holdUnforce params) false
        [.enforcement u .released .unforced g.c g.last] [.hold u .released .unforced]))

/-- R142, R144, R145, R189: only the production slot of the stage is admitted to acknowledge. The applied value is kept; with
cannot-comply the stage is ENFORCED, and otherwise it moves by its compliance state and by whether the value is within the
ceiling. -/
def Obligations.AcknowledgementIsJudged : Prop :=
  ∀ (s w : State) (k : SlotId) (params : List Byte), s.admits k .grantAck params w →
    (∃ u, (s.settings.stations.get k).role = .production u ∧ (params.head?.map (·.toNat)) = some u.1) ∧
    ∀ (u : StageId) (applied : Nat) (cannot : Bool), readAck params = some (u, applied, cannot) →
    let g := s.gu.grants.get u
    let set := s.settings.timing
    let within := applied ≤ g.c + 50 ∧ applied ≤ (s.settings.stages.get u).top
    let becomes := fun (h : Grant) bodies notices => ∃ v,
      exec (.grantAck params) s = .next (respond k ⟨.ok, u8 h.compliance.code ++ u16 g.c⟩ v) ∧
      v.gu = { s.gu with grants := s.gu.grants.set u { h with applied := some applied } } ∧ w.tells v bodies notices ∧
      v = { w with gu := v.gu, rr := v.rr, nu := v.nu }
    let enforced := fun why =>
      { g with compliance := .enforced, cause := some why, complianceTimer := none, holdTimer := none }
    (g.compliance = .disabled → exec (.grantAck params) s = .next (respond k ⟨.state .stageDisabled, []⟩ w)) ∧
    (g.compliance ≠ .disabled → cannot = true →
      (g.compliance = .enforced → becomes (enforced .cannotComply) [] []) ∧
      (g.compliance ≠ .enforced → becomes (enforced .cannotComply)
        [.enforcement u .asserted .cannotComply g.c g.last] [.hold u .asserted .cannotComply])) ∧
    (cannot = false →
      (g.compliance = .tracking → within → becomes g [] []) ∧
      (g.compliance = .tracking → ¬ within →
        becomes { g with compliance := .pending, complianceTimer := some set.deadline } [] [.lowered u g.c]) ∧
      (g.compliance = .pending → within → becomes { g with compliance := .tracking, complianceTimer := none } [] []) ∧
      (g.compliance = .pending → ¬ within → becomes g [] []) ∧
      (g.compliance = .enforced → within →
        becomes { g with compliance := .releasing, holdTimer := some set.holdMinimum } [] []) ∧
      (g.compliance = .enforced → ¬ within → becomes g [] []) ∧
      (g.compliance = .releasing → within → becomes { g with complianceTimer := none } [] []) ∧
      (g.compliance = .releasing → ¬ within → becomes (enforced .ackTimeout)
        [.enforcement u .asserted .ackTimeout g.c g.last] [.hold u .asserted .ackTimeout]))

/-! ### Requests (R25 to R28, R41, R64, R69, R74 to R92, R95, R105 to R109, R115 to R117, R139, R140, R155, R156, R165 to R167, R171, R173,
R174, R176, R184, R185, R187, R191 to R193) -/

/-- R80, R92, R109, R140, R166, R174, R191, R192, R198, R203 to R206: each read answers with the bytes that its rules lay out of
the state as it stands, and changes nothing; STATUS_READ takes the notice of highest priority out of the sender's set. Of the
layouts (State.statusShownBy and the like in Safety.lean) these are the model's choices: the widths and codes that R198 leaves
to a reading and the 0 of absent values (assumption 14), the activity shown (24), the entries returned of FALLBACK and ALLOWANCE
(28), the index of UNUSED (36), bits 2 to 7 of a sent presence byte (35); what is named at floor and top (17) and kept of a
disabled stage (38) is said where it is set. -/
def Obligations.ReadsChangeNothing : Prop :=
  ((∀ n, n < 2 ^ 8 → ∃ a, u8 n = [a] ∧ n = a.toNat) ∧
    (∀ n, n < 2 ^ 16 → ∃ a b, u16 n = [a, b] ∧ n = a.toNat * 2 ^ 8 + b.toNat) ∧
    (∀ n, n < 2 ^ 32 → ∃ a b c d, u32 n = [a, b, c, d] ∧ n = ((a.toNat * 2 ^ 8 + b.toNat) * 2 ^ 8 + c.toNat) * 2 ^ 8 + d.toNat) ∧
    (∀ n, n < 2 ^ 64 → ∃ high low, high < 2 ^ 32 ∧ low < 2 ^ 32 ∧ u64 n = u32 high ++ u32 low ∧ n = high * 2 ^ 32 + low) ∧
    (∀ x : Int, -2 ^ 15 ≤ x → x < 2 ^ 15 → ∃ n, n < 2 ^ 16 ∧ i16 x = u16 n ∧ x = if n < 2 ^ 15 then (n : Int) else n - 2 ^ 16) ∧
    couplingBytes none = [0x7F, 0xFF] ∧ (∀ x, couplingBytes (some x) = i16 x) ∧ flag false = [0] ∧ flag true = [1] ∧
    (∀ width, optional width none = 0 :: List.replicate width 0) ∧ (∀ width v, optional width (some v) = 1 :: v) ∧
    ∀ c : Time, timeBytes c = u16 c.day ++ u32 (if c.valid = true then 2 ^ 31 + c.secs else c.secs)) ∧
  ∀ (s w : State) (k : SlotId) (params : List Byte),
    let answers := fun c (shown : List Byte → Prop) => ∃ b, shown b ∧ exec c s = .next (respond k ⟨.ok, b⟩ w)
    (s.admits k .levelsRead params w → ∀ part, readLevelsPart params = some part → answers (.levelsRead params) (s.levelsShownBy part)) ∧
    (s.admits k .couplingRead params w → ∀ u, readIndex 4 params = some u →
      answers (.couplingRead params) fun b => b.length = 16 ∧
        ∀ j : PointId, (b.drop (2 * j.1)).take 2 = couplingBytes ((s.settings.coupling.get u).get j)) ∧
    (s.admits k .surveyRead params w → answers (.surveyRead params) s.cs.shownBy) ∧
    (s.admits k .schedRead params w → ∀ list first, readSchedList params = some (list, first) →
      answers (.schedRead params) (s.scheduleShownBy list first)) ∧
    (s.admits k .recordRead params w → ∀ offset count, readRecordSpan params = some (offset, count) →
      answers (.recordRead params) (s.rr.shownBy offset count)) ∧
    (s.admits k .grantQuery params w → ∀ u, readIndex 4 params = some u → answers (.grantQuery params) (s.gu.shownBy u)) ∧
    (s.admits k .statusRead params w →
      let q := s.nu.get k
      ∃ b, w.statusShownBy q.pending b ∧ exec (.statusRead params) s = .next (respond k ⟨.ok, b⟩
        { w with nu := s.nu.set k { q with pending := q.pending.tail } }))

/-- R82, R83: SESSION_OPEN is judged in the order of R82 and, where nothing stands against it, opens a session of F_S frames in
the schedule unit, the integrator and the grant records at once. R51, R84: SESSION_CLOSE ends the open session tiers, in point
order, then records the close with the slot that asked for it; E_S is held. -/
def Obligations.SessionsOpenAndClose : Prop :=
  (∀ (s w : State) (k : SlotId) (params : List Byte) (req : Option Nat), s.admits k .sessionOpen params w →
    readEndMinute params = some req →
    let m := s.su.clock.secs / 60
    let latest := s.settings.allowance.latestEnd
    let used := req.getD latest
    let d := (used + 1440 - m) % 1440
    let dLatest := (latest + 1440 - m) % 1440
    let unset := ∃ u j, (s.settings.stages.get u).enabled = true ∧ (s.settings.points.get j).enabled = true ∧
      (s.settings.coupling.get u).get j = none
    let barred := fun why => exec (.sessionOpen params) s = .next (respond k ⟨.state why, []⟩ w)
    let fS := max 1 (d * 600 - s.su.clock.secs % 60 * 10)
    let ls := s.settings.allowance.ls
    if s.su.session ≠ none then barred .sessionOpen
    else if s.su.clock.valid = false then barred .clock
    else if s.cs.state = .quiet ∨ s.cs.state = .signal then barred .survey
    else if s.su.limits.stop ≠ none then barred .stop
    else (unset → barred .coupling) ∧
      (¬ unset → d = 0 ∨ dLatest = 0 ∨ dLatest < d → barred .endTime) ∧
      (¬ unset → d ≠ 0 → dLatest ≠ 0 → d ≤ dLatest → ∃ v,
        exec (.sessionOpen params) s = .next (respond k ⟨.ok, u32 fS ++ u16 used⟩ v) ∧
        v.su = { s.su with session := some ⟨k, used, fS, ls⟩ } ∧ v.ei.sessionFrames = fS ∧ v.ei.phase = s.ei.phase ∧
        v.ei.stages = s.ei.stages ∧
        (∀ j, v.ei.points.get j = { s.ei.points.get j with
          eS := 0
          sessionLimit := (ls.get (s.settings.points.get j).zone).map fun l => ⟨l, p l * fS⟩ }) ∧
        (∀ u, v.gu.grants.get u = { s.gu.grants.get u with session := true }) ∧
        v.gu.approach = s.gu.approach ∧ v.gu.curfew = s.gu.curfew ∧
        w.tells v [.sessionOpened k fS] [] ∧ v = { w with su := v.su, ei := v.ei, gu := v.gu, rr := v.rr, nu := v.nu })) ∧
  ∀ (s w : State) (k : SlotId) (params : List Byte), s.admits k .sessionClose params w →
    (s.su.session = none → exec (.sessionClose params) s = .next (respond k ⟨.state .noSession, []⟩ w)) ∧
    ∀ q, s.su.session = some q → ∃ v, exec (.sessionClose params) s = .next (respond k okEmpty v) ∧
      v.su = { s.su with session := none } ∧ v.ei.sessionFrames = 0 ∧ v.ei.phase = s.ei.phase ∧ v.ei.stages = s.ei.stages ∧
      (∀ j, v.ei.points.get j = { s.ei.points.get j with sessionLimit := none, sessionEp := none }) ∧
      (∀ u, v.gu.grants.get u = { s.gu.grants.get u with session := false }) ∧
      v.gu.approach = s.gu.approach ∧ v.gu.curfew = s.gu.curfew ∧
      w.tells v ((allPoints.filterMap fun j => (s.ei.points.get j).sessionEp.map fun ep =>
        RecordBody.exceedanceEnd j .session (ep.peak.getD ep.start) (ep.frames / 10)) ++ [.sessionClosed k q.fS .request]) [] ∧
      v = { w with su := v.su, ei := v.ei, gu := v.gu, rr := v.rr, nu := v.nu }

/-- R28, R31, R41, R44, R53: POINT_WRITE replaces the point's stored fields; a change of the enabled flag empties its sums and
selects its source, with a SENSOR record of the change, a disabling ends its episodes, a move to other limits adjusts its bucket
and ends the tiers they lack. In a session it may change the substitute level alone. Which comes first of the end records and
the SENSOR record, and the order of several end records, are the model's choices (assumptions 5, 15). -/
def Obligations.PointWriteTakesEffect : Prop :=
  ∀ (s w : State) (k : SlotId) (params : List Byte) (j : PointId) (q : PointSettings), s.admits k .pointWrite params w →
    readPoint params = some (j, q) →
    let old := s.settings.points.get j
    let x := s.ei.points.get j
    let was := s.su.limits.zones.get old.zone
    let now := s.su.limits.zones.get q.zone
    let flipped := old.enabled ≠ q.enabled
    let off := old.enabled = true ∧ q.enabled = false
    let frozen := s.su.session ≠ none ∧ (flipped ∨ q.zone ≠ old.zone ∨ q.standbyOffset ≠ old.standbyOffset)
    (frozen → exec (.pointWrite params) s = .next (respond k ⟨.state .sessionOpen, []⟩ w)) ∧
    (¬ frozen → s.st.saving ≠ none → exec (.pointWrite params) s = .next (respond k ⟨.busy, []⟩ w)) ∧
    (¬ frozen → s.st.saving = none → ∃ v, exec (.pointWrite params) s = .next (respond k okEmpty v) ∧
      v.settings = { s.settings with points := s.settings.points.set j q } ∧
      (let sums : PointExposure := if flipped then
          { x with
            secondSum := 0, secondBlind := 0, intervalA := 0, intervalC := 0, intervalBlind := 0, intervalOverload := 0
            intervalGap := 0, intervalMax := none }
          else x
        let kept : PointExposure := if off then { sums with fastEp := none, windowEp := none, sessionEp := none } else sums
        kept.relimitedTo (v.ei.points.get j) was now s.settings.timing.depth) ∧
      v.ei = { s.ei with points := s.ei.points.set j (v.ei.points.get j) } ∧
      s.pm.differsIn v.pm (if flipped then [j] else []) [] ∧
      (flipped → s.settings.bindingsDistinct → v.sourceFollows j) ∧
      (let ends := if off then endRecord j .fast x.fastEp ++ endRecord j .window x.windowEp ++ endRecord j .session x.sessionEp
          else absentEnds j x was now
        let source := s.sourceRecords v [j]
        let notices := (s.sourcesChanged v [j]).map .sensorPoint
        w.tells v (ends ++ source) notices ∨ w.tells v (source ++ ends) notices) ∧
      v = { w with settings := v.settings, ei := v.ei, pm := v.pm, rr := v.rr, nu := v.nu, draws := v.draws })

/-- R115, R116, R139, R146, R147, R153 to R156: STAGE_WRITE keeps the share, and an enabling counts it; it is refused in a
session but for the idle threshold. An enabled stage starts ENFORCED at its floor; a disabled one stands DISABLED at its floor,
and its survey is abandoned; a stage that stays enabled is clamped into its new floor and top and, where its ceiling or its top
changed, judged by its compliance state. Records and notices go with each. That target kind and last second of a disabled stage
stand is the model's choice (assumption 38). -/
def Obligations.StageWriteTakesEffect : Prop :=
  ∀ (s w : State) (k : SlotId) (params : List Byte) (u : StageId) (on : Bool) (floor top idle : Nat),
    s.admits k .stageWrite params w → readStage params = some (u, on, floor, top, idle) →
    let old := s.settings.stages.get u
    let new : StageSettings := ⟨on, floor, top, idle, old.share⟩
    let g := s.gu.grants.get u
    let excess := old.enabled = false ∧ on = true ∧
      256 < ((allStages.filter fun j => j = u || (s.settings.stages.get j).enabled).map fun j =>
        (s.settings.stages.get j).share).sum
    let frozen := s.su.session ≠ none ∧ (on ≠ old.enabled ∨ floor ≠ old.floor ∨ top ≠ old.top)
    let surveyed := (s.cs.state = .quiet ∨ s.cs.state = .signal) ∧ s.cs.stage = u
    (excess → exec (.stageWrite params) s = .next (respond k ⟨.param, []⟩ w)) ∧
    (¬ excess → frozen → exec (.stageWrite params) s = .next (respond k ⟨.state .sessionOpen, []⟩ w)) ∧
    (¬ excess → ¬ frozen → s.st.saving ≠ none → exec (.stageWrite params) s = .next (respond k ⟨.busy, []⟩ w)) ∧
    (¬ excess → ¬ frozen → s.st.saving = none → ∃ v, exec (.stageWrite params) s = .next (respond k okEmpty v) ∧
      v.settings = { s.settings with stages := s.settings.stages.set u new } ∧
      (∀ j, j ≠ u → v.gu.grants.get j = s.gu.grants.get j) ∧ v.gu.approach = s.gu.approach ∧ v.gu.curfew = s.gu.curfew ∧
      (let h := v.gu.grants.get u;
        (old.enabled = false → on = true → h = { g with
            compliance := .enforced, cause := some .powerUp, complianceTimer := none, holdTimer := none, c := floor, t := floor
            kind := .closed, applied := none, overrun := 0, last := .blind } ∧
          w.tells v [.enforcement u .asserted .powerUp floor .blind] [.hold u .asserted .powerUp] ∧
          v.ae = { s.ae with activity := s.ae.activity.set u (some ⟨false, 0⟩) }) ∧
        (old.enabled = true → on = false →
          let released := (g.compliance = .enforced ∨ g.compliance = .releasing) ∧ g.forced = false
          h = { g with
            compliance := .disabled, complianceTimer := none, holdTimer := none, c := floor, t := floor, applied := none
            overrun := 0 } ∧
          w.tells v (if released then [.enforcement u .released .disabled floor g.last] else [])
            ((if surveyed then [.survey (some .operator) u] else []) ++ if released then [.hold u .released .disabled] else []) ∧
          v.ae.activity = s.ae.activity.set u none ∧ v.ae.approach = s.ae.approach ∧ v.ae.handed = s.ae.handed ∧
          (∀ f, s.ae.figures = some f → v.ae.figures = some { f with stages := f.stages.set u none }) ∧
          (s.ae.figures = none → v.ae.figures = none) ∧
          (∀ i, s.ae.pass = some i → v.ae.pass = some { i with dropped := i.dropped.set u true }) ∧
          (s.ae.pass = none → v.ae.pass = none)) ∧
        (old.enabled = on → v.ae = s.ae ∧ v.rr = s.rr) ∧
        (old.enabled = false → on = false → h = { g with c := floor, t := floor } ∧ v.nu = s.nu) ∧
        (old.enabled = true → on = true →
          let within := ∃ a, g.applied = some a ∧ a ≤ h.c + 50 ∧ a ≤ top
          let changed := h.c ≠ g.c ∨ top ≠ old.top
          let lowered := changed ∧ ¬ within ∧ (g.compliance = .tracking ∨ (g.compliance = .pending ∧ h.c < g.c) ∨
            (g.compliance = .releasing ∧ (g.complianceTimer = none ∨ h.c < g.c)))
          h = { g with c := h.c, t := h.t, compliance := h.compliance, complianceTimer := h.complianceTimer } ∧
          h.c = clampTo floor top g.c ∧ h.t = clampTo floor top g.t ∧
          (¬ changed ∨ g.compliance = .enforced ∨ g.compliance = .disabled →
            h.compliance = g.compliance ∧ h.complianceTimer = g.complianceTimer) ∧
          (changed →
            (g.compliance = .tracking → within → h.compliance = .tracking ∧ h.complianceTimer = g.complianceTimer) ∧
            (g.compliance = .tracking → ¬ within →
              h.compliance = .pending ∧ h.complianceTimer = some s.settings.timing.deadline) ∧
            (g.compliance = .pending → within → h.compliance = .tracking ∧ h.complianceTimer = none) ∧
            (g.compliance = .pending → ¬ within → h.compliance = .pending ∧ h.complianceTimer = g.complianceTimer) ∧
            (g.compliance = .releasing → h.compliance = .releasing ∧ (within → h.complianceTimer = none) ∧
              (¬ within → h.complianceTimer = some (g.complianceTimer.getD s.settings.timing.deadline)))) ∧
          w.tells v [] (if lowered then [.lowered u h.c] else []))) ∧
      v.cs = (if old.enabled = true ∧ on = false ∧ surveyed then
        { s.cs with state := .aborted, reason := some .operator } else s.cs) ∧
      v = { w with settings := v.settings, ae := v.ae, cs := v.cs, gu := v.gu, rr := v.rr, nu := v.nu })

/-- R26: CHANNEL_BIND gives the channel its binding, takes it from another holder, and starts the channel afresh; a reference
whose channel changed holds 1 pu; a survey of a stage whose reference it takes is abandoned, with its notice (R104). The sources
of the points of the old and of the new binding are selected afresh (R29), each change with SENSOR record and notice (R31). That
the displaced channel keeps its expected identity in the map (assumption 22), and which point's SENSOR record comes first
(assumption 5), are the model's choices. -/
def Obligations.ChannelBindTakesEffect : Prop :=
  ∀ (s w : State) (k : SlotId) (params : List Byte) (c : ChannelId) (e : MapEntry), s.admits k .channelBind params w →
    readBind params = some (c, e) → s.settings.bindingsDistinct →
    let old := (s.settings.channelMap.get c).binding
    let displaced := fun d => d ≠ c ∧ e.binding ≠ .unused ∧ (s.settings.channelMap.get d).binding = e.binding
    let unbound := fun (x : Channel) => (⟨.unbound, 0, none, 0, 0, false, 0, 0, ⟨0, 0, 0, 0, 0⟩, x.receiving⟩ : Channel)
    (s.su.session ≠ none → exec (.channelBind params) s = .next (respond k ⟨.state .sessionOpen, []⟩ w)) ∧
    (s.su.session = none → s.st.saving ≠ none → exec (.channelBind params) s = .next (respond k ⟨.busy, []⟩ w)) ∧
    (s.su.session = none → s.st.saving = none → ∃ v,
      exec (.channelBind params) s = .next (respond k ⟨.ok, u8 (if e.binding = .unused then 0 else 1)⟩ v) ∧
      v.settings = { s.settings with channelMap := v.settings.channelMap } ∧
      v.settings.channelMap.get c = e ∧
      (∀ d, displaced d → v.settings.channelMap.get d = { s.settings.channelMap.get d with binding := .unused } ∧
        v.sp.get d = unbound (s.sp.get d)) ∧
      (∀ d, d ≠ c → ¬ displaced d →
        v.settings.channelMap.get d = s.settings.channelMap.get d ∧ v.sp.get d = s.sp.get d) ∧
      (e.binding = .unused → v.sp.get c = unbound (s.sp.get c)) ∧
      (e.binding ≠ .unused → v.sp.get c = { s.sp.get c with
        state := .settling, accepted := e.expected, lastSeq := none, goodCount := 0, badRun := 0, silence := true
        slot := ⟨0, 0, 0, 0, 0⟩ }) ∧
      (∀ j, v.pm.points.get j = { s.pm.points.get j with source := (v.pm.points.get j).source }) ∧
      (∀ j, j ∉ old.points → j ∉ e.binding.points → v.pm.points.get j = s.pm.points.get j) ∧
      (∀ u, u ∉ old.stages → u ∉ e.binding.stages → v.pm.refs.get u = s.pm.refs.get u) ∧
      (∀ u, old ≠ e.binding → u ∈ old.stages ∨ u ∈ e.binding.stages → v.pm.refs.get u = ⟨false, 1⟩) ∧
      (∀ u, old = e.binding → u ∈ old.stages → v.pm.refs.get u = ⟨false, (s.pm.refs.get u).held⟩) ∧
      v.cs = (if (s.cs.state = .quiet ∨ s.cs.state = .signal) ∧ (s.cs.stage ∈ old.stages ∨ s.cs.stage ∈ e.binding.stages) then
        { s.cs with state := .aborted, reason := some .channelLost } else s.cs) ∧
      (∀ j, j ∈ old.points ∨ j ∈ e.binding.points → v.sourceFollows j) ∧
      (let first := s.sourcesChanged v old.points
        let second := if e.binding.points = old.points then [] else s.sourcesChanged v e.binding.points
        ∃ changed, (changed = first ++ second ∨ changed = second ++ first) ∧
          w.tells v (changed.map fun j => .sensorPoint j (v.pm.points.get j).source)
            (changed.map .sensorPoint ++ if v.cs = s.cs then [] else [.survey (some .channelLost) s.cs.stage])) ∧
      v = { w with
        settings := v.settings, sp := v.sp, pm := v.pm, cs := v.cs, rr := v.rr, nu := v.nu, draws := v.draws })

/-- R91, R117, R171, R184: SHARE_WRITE, COUPLING_WRITE, DISPATCH_WRITE and ARB_WRITE replace one stored table entry and nothing
else; BUSY during a save, and COUPLING_WRITE not in a session, SHARE_WRITE not above 256 in all. -/
def Obligations.TableWritesReplaceOneEntry : Prop :=
  ∀ (s w : State) (k : SlotId) (params : List Byte),
    let sets := fun c (g : Settings) => if s.st.saving = none then
        exec c s = .next (respond k okEmpty { w with settings := g })
      else exec c s = .next (respond k ⟨.busy, []⟩ w)
    (s.admits k .shareWrite params w → ∀ x, readShares params = some x →
      let sum := ((allStages.filter fun u => (s.settings.stages.get u).enabled).map fun u => x.get u).sum
      (sum ≤ 256 → ∃ g, sets (.shareWrite params) { s.settings with stages := g } ∧
        ∀ u, g.get u = { s.settings.stages.get u with share := x.get u }) ∧
      (256 < sum → exec (.shareWrite params) s = .next (respond k ⟨.param, []⟩ w))) ∧
    (s.admits k .couplingWrite params w → ∀ u j x, readCoupling params = some (u, j, x) →
      (s.su.session = none → sets (.couplingWrite params) { s.settings with
        coupling := s.settings.coupling.set u ((s.settings.coupling.get u).set j x) }) ∧
      (s.su.session ≠ none → exec (.couplingWrite params) s = .next (respond k ⟨.state .sessionOpen, []⟩ w))) ∧
    (s.admits k .dispatchWrite params w → ∀ c m, readDispatch params = some (c, m) →
      sets (.dispatchWrite params) { s.settings with dispatch := s.settings.dispatch.set c m }) ∧
    (s.admits k .arbWrite params w → ∀ g, readArbiter params = some g →
      sets (.arbWrite params) { s.settings with arbiter := g })

/-- R95, R105, R107, R108: SURVEY_START begins QUIET in the conditions of R95 and their order; SURVEY_ABORT abandons;
SURVEY_ACCEPT puts the RESOLVED codes into the stage's row and SURVEY_DISCARD drops the result. That stage, d and survey level
stand after the latter two is the model's choice (assumption 18). -/
def Obligations.SurveyRequestsTakeEffect : Prop :=
  ∀ (s w : State) (k : SlotId) (params : List Byte),
    let runs := s.cs.state = .quiet ∨ s.cs.state = .signal
    let barred := fun c why => exec c s = .next (respond k ⟨.state why, []⟩ w)
    let idle := fun (v : State) => v.cs.started ∧ v.cs.stage = s.cs.stage ∧ v.cs.d = s.cs.d ∧ v.cs.level = s.cs.level
    (s.admits k .surveyStart params w → ∀ u d level, readSurvey params = some (u, d, level) →
      let q := s.settings.stages.get u
      if level < q.floor ∨ q.top < level then exec (.surveyStart params) s = .next (respond k ⟨.param, []⟩ w)
      else if s.su.session ≠ none then barred (.surveyStart params) .sessionOpen
      else if s.cs.state = .quiet ∨ s.cs.state = .signal then barred (.surveyStart params) .survey
      else if q.enabled = false then barred (.surveyStart params) .stageDisabled
      else if ∀ c ∈ allChannels, (s.settings.channelMap.get c).binding = .reference u → (s.sp.get c).state ≠ .live then
        barred (.surveyStart params) .reference
      else s.settings.bindingsDistinct → exec (.surveyStart params) s = .next (respond k okEmpty { w with cs := {
        state := .quiet, stage := u, d := d, level := level, phaseSecs := 0, excluded := 0, strong := 0
        quiet := Bank.fill 8 ⟨0, 0, 0⟩, signal := Bank.fill 8 ⟨0, 0, 0⟩, refEnergy := 0, refFrames := 0, reason := none
        results := none } })) ∧
    (s.admits k .surveyAbort params w →
      (runs → ∃ v, exec (.surveyAbort params) s = .next (respond k okEmpty v) ∧
        v.cs = { s.cs with state := .aborted, reason := some .operator } ∧
        w.tells v [] [.survey (some .operator) s.cs.stage] ∧ v = { w with cs := v.cs, nu := v.nu }) ∧
      (¬ runs → barred (.surveyAbort params) .noSurvey)) ∧
    (s.admits k .surveyAccept params w →
      (s.cs.state ≠ .done → barred (.surveyAccept params) .notDone) ∧
      (s.cs.state = .done → s.su.session ≠ none → barred (.surveyAccept params) .sessionOpen) ∧
      (s.cs.state = .done → s.su.session = none → s.st.saving ≠ none →
        exec (.surveyAccept params) s = .next (respond k ⟨.busy, []⟩ w)) ∧
      ∀ r, s.cs.state = .done → s.su.session = none → s.st.saving = none → s.cs.results = some r →
        ∃ v, exec (.surveyAccept params) s = .next (respond k okEmpty v) ∧ idle v ∧
          v.settings = { s.settings with coupling := v.settings.coupling } ∧
          (∀ u j, (v.settings.coupling.get u).get j =
            match if u = s.cs.stage then (r.points.get j).code else none with
              | some x => some x
              | none => (s.settings.coupling.get u).get j) ∧
          v = { w with settings := v.settings, cs := v.cs }) ∧
    (s.admits k .surveyDiscard params w →
      (s.cs.state = .done ∨ s.cs.state = .aborted →
        ∃ v, exec (.surveyDiscard params) s = .next (respond k okEmpty v) ∧ idle v ∧ v = { w with cs := v.cs }) ∧
      (s.cs.state ≠ .done → s.cs.state ≠ .aborted → barred (.surveyDiscard params) .notDone))

/-- R74 to R77: the writes of the pending schedule change it alone, and are refused under the commit mark, which SCHED_COMMIT
sets. -/
def Obligations.PendingScheduleIsWritten : Prop :=
  ∀ (s w : State) (k : SlotId) (params : List Byte),
    let n := s.su.pendingList.length
    let unlessCommitted := fun c payload (u : ScheduleUnit) => if s.su.commit = true then
        exec c s = .next (respond k ⟨.state .commitPending, []⟩ w)
      else exec c s = .next (respond k ⟨.ok, payload⟩ { w with su := u })
    (s.admits k .schedWrite params w → ∀ i q, readPeriod params = some (i, q) →
      (n < i ∨ 15 < i → exec (.schedWrite params) s = .next (respond k ⟨.param, []⟩ w)) ∧
      (i < n → i ≤ 15 → unlessCommitted (.schedWrite params) (u8 n) { s.su with pendingList := s.su.pendingList.set i q }) ∧
      (i = n → i ≤ 15 → unlessCommitted (.schedWrite params) (u8 (n + 1)) { s.su with pendingList := s.su.pendingList ++ [q] })) ∧
    (s.admits k .schedClear params w → unlessCommitted (.schedClear params) [] { s.su with pendingList := [] }) ∧
    (s.admits k .sessionLimitWrite params w → ∀ a, readAllowance params = some a →
      unlessCommitted (.sessionLimitWrite params) [] { s.su with pendingAllowance := a }) ∧
    (s.admits k .schedCommit params w → unlessCommitted (.schedCommit params) [] { s.su with commit := true })

/-- R64, R69 to R72: TIME_SET sets the clock, records the old and the new time and posts CLOCK; FALLBACK_WRITE replaces the
fallback record; each recomputes the limits in force, FALLBACK_WRITE only while the clock is invalid. That several ends of one
recomputation stand in point and tier order (assumption 15), and the CURFEW record before them or after (assumption 6), are the
model's choices. -/
def Obligations.ClockAndFallbackAreWritten : Prop :=
  ∀ (s w : State) (k : SlotId) (params : List Byte),
    (s.admits k .timeSet params w → ∀ c, readTime params = some c → ∃ v,
      exec (.timeSet params) s = .next (respond k okEmpty v) ∧
      let set := { w with su := { s.su with clock := c } }
      ∃ m, set.tells m [.clock s.su.clock c] [.clock c.valid] ∧ m = { set with rr := m.rr, nu := m.nu } ∧ m.recomputedTo v) ∧
    (s.admits k .fallbackWrite params w → ∀ z, readFallback params = some z →
      (s.st.saving ≠ none → exec (.fallbackWrite params) s = .next (respond k ⟨.busy, []⟩ w)) ∧
      (s.st.saving = none → s.su.clock.valid = true → exec (.fallbackWrite params) s =
        .next (respond k okEmpty { w with settings := { s.settings with fallback := z } })) ∧
      (s.st.saving = none → s.su.clock.valid = false → ∃ v, exec (.fallbackWrite params) s = .next (respond k okEmpty v) ∧
        v.su.limits = ⟨none, z, none⟩ ∧ { w with settings := { s.settings with fallback := z } }.recomputedTo v))

/-- R173, R176, R185, R187, R205: ROLE_WRITE keeps the station table lawful and empties the pending set of a slot whose role,
stage or authorization it changes; NOTICE_ENABLE sets the sender's enable and answers with the line and the mask of the pending
classes; ARB_CLEAR returns a BROKEN slot to use, with record and notice. -/
def Obligations.StationsAndSlotsAreWritten : Prop :=
  ∀ (s w : State) (k : SlotId) (params : List Byte),
    (s.admits k .roleWrite params w → ∀ j x, readStation params = some (j, x) →
      let old := s.settings.stations.get j
      let unlawful := j = 0 ∨ x.role = .authority ∨ (x.role = .unassigned ∧ x.authorized = true) ∨
        ∃ u i, x.role = .production u ∧ i ≠ j ∧ (s.settings.stations.get i).role = .production u
      (unlawful → exec (.roleWrite params) s = .next (respond k ⟨.param, []⟩ w)) ∧
      (¬ unlawful → s.st.saving ≠ none → exec (.roleWrite params) s = .next (respond k ⟨.busy, []⟩ w)) ∧
      (¬ unlawful → s.st.saving = none → exec (.roleWrite params) s = .next (respond k okEmpty { w with
        settings := { s.settings with stations := s.settings.stations.set j x }
        nu := if x.role = old.role ∧ x.authorized = old.authorized then s.nu
          else s.nu.set j { s.nu.get j with pending := [] } }))) ∧
    (s.admits k .noticeEnable params w → ∀ on, readEnable params = some on →
      let q := s.nu.get k
      ∃ m, classesMasked q.pending m ∧ exec (.noticeEnable params) s =
        .next (respond k ⟨.ok, flag (on && !q.pending.isEmpty) ++ u16 m⟩ { w with nu := s.nu.set k { q with enable := on } })) ∧
    (s.admits k .arbClear params w → ∀ j, readIndex 8 params = some j →
      let x := s.la.slots.get j
      (x.broken = false → exec (.arbClear params) s = .next (respond k ⟨.state .notBroken, []⟩ w)) ∧
      (x.broken = true → j ≠ k → ∃ v, exec (.arbClear params) s = .next (respond k okEmpty v) ∧
        v.la = { w.la with slots := w.la.slots.set j ⟨x.line, false, 0⟩ } ∧
        w.tells v [.access j .cleared 0] [.access j .cleared] ∧ v = { w with la := v.la, rr := v.rr, nu := v.nu }))

/-- R165, R167, R168, R193: RECORD_RELEASE removes the oldest records and, where records were lost, offers the GAP record of the
loss, which posts RING where it brings the held count to the threshold, and clears the count; TIMING_WRITE replaces the nine
settings, clamps the buckets to a new depth and posts RING where the threshold falls to the held count. -/
def Obligations.RingAndTimingAreWritten : Prop :=
  ∀ (s w : State) (k : SlotId) (params : List Byte),
    (s.admits k .recordRelease params w → ∀ n, readCount params = some n →
      let rest : RecordRing := { s.rr with list := s.rr.list.drop n }
      let after := if s.rr.lost = 0 then rest else { rest.offer s.su.clock (.gap .ringFull s.rr.lost) with lost := 0 }
      (s.rr.list.length < n → exec (.recordRelease params) s = .next (respond k ⟨.param, []⟩ w)) ∧
      (n ≤ s.rr.list.length → ∃ v first last, s.rr.list.head? = some first ∧ s.rr.list[n - 1]? = some last ∧
        exec (.recordRelease params) s =
          .next (respond k ⟨.ok, u32 first.number ++ u32 last.number ++ u16 after.list.length⟩ v) ∧
        v.rr = after ∧
        (let held := rest.list.length + 1
          let crosses := s.rr.lost ≠ 0 ∧ held = s.settings.timing.threshold ∧ held ≤ 1024
          (crosses → v.nu = (post (.ring held) s).nu) ∧ (¬ crosses → v.nu = s.nu)) ∧
        v = { w with rr := v.rr, nu := v.nu })) ∧
    (s.admits k .timingWrite params w → ∀ g, readTiming params = some g →
      (s.st.saving ≠ none → exec (.timingWrite params) s = .next (respond k ⟨.busy, []⟩ w)) ∧
      (s.st.saving = none → ∃ v, exec (.timingWrite params) s = .next (respond k okEmpty v) ∧
        v.settings = { s.settings with timing := g } ∧
        (g.depth = s.settings.timing.depth → v.ei = s.ei) ∧
        (g.depth ≠ s.settings.timing.depth → v.ei = { s.ei with points := v.ei.points } ∧
          ∀ j, v.ei.points.get j = { s.ei.points.get j with
            bucket := (s.ei.points.get j).bucket.fittedTo (s.limitsOf j).lf g.depth }) ∧
        (let n := s.rr.list.length;
          (n < s.settings.timing.threshold → g.threshold ≤ n → v.nu = (post (.ring n) s).nu) ∧
          (s.settings.timing.threshold ≤ n ∨ n < g.threshold → v.nu = s.nu)) ∧
        v = { w with settings := v.settings, ei := v.ei, nu := v.nu }))
end

