-- ==== Sys2Proof/Laws/State.lean ====
section
/-!
SUPPORT. One lemma per field per update of one entry of the state.
-/

namespace Sys2Proof.Machine

variable (s : State)

/-! ### setChannel -/

@[simp] theorem State.setChannel_powered (c : ChannelId) (x : Channel) : (s.setChannel c x).powered = s.powered := rfl
@[simp] theorem State.setChannel_settings (c : ChannelId) (x : Channel) : (s.setChannel c x).settings = s.settings := rfl
@[simp] theorem State.setChannel_sp (c : ChannelId) (x : Channel) : (s.setChannel c x).sp = s.sp.set c x := rfl
@[simp] theorem State.setChannel_pm (c : ChannelId) (x : Channel) : (s.setChannel c x).pm = s.pm := rfl
@[simp] theorem State.setChannel_ei (c : ChannelId) (x : Channel) : (s.setChannel c x).ei = s.ei := rfl
@[simp] theorem State.setChannel_su (c : ChannelId) (x : Channel) : (s.setChannel c x).su = s.su := rfl
@[simp] theorem State.setChannel_cs (c : ChannelId) (x : Channel) : (s.setChannel c x).cs = s.cs := rfl
@[simp] theorem State.setChannel_ae (c : ChannelId) (x : Channel) : (s.setChannel c x).ae = s.ae := rfl
@[simp] theorem State.setChannel_gu (c : ChannelId) (x : Channel) : (s.setChannel c x).gu = s.gu := rfl
@[simp] theorem State.setChannel_rr (c : ChannelId) (x : Channel) : (s.setChannel c x).rr = s.rr := rfl
@[simp] theorem State.setChannel_nu (c : ChannelId) (x : Channel) : (s.setChannel c x).nu = s.nu := rfl
@[simp] theorem State.setChannel_la (c : ChannelId) (x : Channel) : (s.setChannel c x).la = s.la := rfl
@[simp] theorem State.setChannel_st (c : ChannelId) (x : Channel) : (s.setChannel c x).st = s.st := rfl
@[simp] theorem State.setChannel_draws (c : ChannelId) (x : Channel) : (s.setChannel c x).draws = s.draws := rfl
@[simp] theorem State.setChannel_pending (c : ChannelId) (x : Channel) : (s.setChannel c x).pending = s.pending := rfl

/-! ### setView -/

@[simp] theorem State.setView_powered (k : PointId) (x : PointView) : (s.setView k x).powered = s.powered := rfl
@[simp] theorem State.setView_settings (k : PointId) (x : PointView) : (s.setView k x).settings = s.settings := rfl
@[simp] theorem State.setView_sp (k : PointId) (x : PointView) : (s.setView k x).sp = s.sp := rfl
@[simp] theorem State.setView_pm (k : PointId) (x : PointView) : (s.setView k x).pm = { s.pm with points := s.pm.points.set k x } := rfl
@[simp] theorem State.setView_ei (k : PointId) (x : PointView) : (s.setView k x).ei = s.ei := rfl
@[simp] theorem State.setView_su (k : PointId) (x : PointView) : (s.setView k x).su = s.su := rfl
@[simp] theorem State.setView_cs (k : PointId) (x : PointView) : (s.setView k x).cs = s.cs := rfl
@[simp] theorem State.setView_ae (k : PointId) (x : PointView) : (s.setView k x).ae = s.ae := rfl
@[simp] theorem State.setView_gu (k : PointId) (x : PointView) : (s.setView k x).gu = s.gu := rfl
@[simp] theorem State.setView_rr (k : PointId) (x : PointView) : (s.setView k x).rr = s.rr := rfl
@[simp] theorem State.setView_nu (k : PointId) (x : PointView) : (s.setView k x).nu = s.nu := rfl
@[simp] theorem State.setView_la (k : PointId) (x : PointView) : (s.setView k x).la = s.la := rfl
@[simp] theorem State.setView_st (k : PointId) (x : PointView) : (s.setView k x).st = s.st := rfl
@[simp] theorem State.setView_draws (k : PointId) (x : PointView) : (s.setView k x).draws = s.draws := rfl
@[simp] theorem State.setView_pending (k : PointId) (x : PointView) : (s.setView k x).pending = s.pending := rfl

/-! ### setRef -/

@[simp] theorem State.setRef_powered (t : StageId) (x : RefView) : (s.setRef t x).powered = s.powered := rfl
@[simp] theorem State.setRef_settings (t : StageId) (x : RefView) : (s.setRef t x).settings = s.settings := rfl
@[simp] theorem State.setRef_sp (t : StageId) (x : RefView) : (s.setRef t x).sp = s.sp := rfl
@[simp] theorem State.setRef_pm (t : StageId) (x : RefView) : (s.setRef t x).pm = { s.pm with refs := s.pm.refs.set t x } := rfl
@[simp] theorem State.setRef_ei (t : StageId) (x : RefView) : (s.setRef t x).ei = s.ei := rfl
@[simp] theorem State.setRef_su (t : StageId) (x : RefView) : (s.setRef t x).su = s.su := rfl
@[simp] theorem State.setRef_cs (t : StageId) (x : RefView) : (s.setRef t x).cs = s.cs := rfl
@[simp] theorem State.setRef_ae (t : StageId) (x : RefView) : (s.setRef t x).ae = s.ae := rfl
@[simp] theorem State.setRef_gu (t : StageId) (x : RefView) : (s.setRef t x).gu = s.gu := rfl
@[simp] theorem State.setRef_rr (t : StageId) (x : RefView) : (s.setRef t x).rr = s.rr := rfl
@[simp] theorem State.setRef_nu (t : StageId) (x : RefView) : (s.setRef t x).nu = s.nu := rfl
@[simp] theorem State.setRef_la (t : StageId) (x : RefView) : (s.setRef t x).la = s.la := rfl
@[simp] theorem State.setRef_st (t : StageId) (x : RefView) : (s.setRef t x).st = s.st := rfl
@[simp] theorem State.setRef_draws (t : StageId) (x : RefView) : (s.setRef t x).draws = s.draws := rfl
@[simp] theorem State.setRef_pending (t : StageId) (x : RefView) : (s.setRef t x).pending = s.pending := rfl

/-! ### setExposure -/

@[simp] theorem State.setExposure_powered (k : PointId) (x : PointExposure) : (s.setExposure k x).powered = s.powered := rfl
@[simp] theorem State.setExposure_settings (k : PointId) (x : PointExposure) : (s.setExposure k x).settings = s.settings := rfl
@[simp] theorem State.setExposure_sp (k : PointId) (x : PointExposure) : (s.setExposure k x).sp = s.sp := rfl
@[simp] theorem State.setExposure_pm (k : PointId) (x : PointExposure) : (s.setExposure k x).pm = s.pm := rfl
@[simp] theorem State.setExposure_ei (k : PointId) (x : PointExposure) : (s.setExposure k x).ei = { s.ei with points := s.ei.points.set k x } := rfl
@[simp] theorem State.setExposure_su (k : PointId) (x : PointExposure) : (s.setExposure k x).su = s.su := rfl
@[simp] theorem State.setExposure_cs (k : PointId) (x : PointExposure) : (s.setExposure k x).cs = s.cs := rfl
@[simp] theorem State.setExposure_ae (k : PointId) (x : PointExposure) : (s.setExposure k x).ae = s.ae := rfl
@[simp] theorem State.setExposure_gu (k : PointId) (x : PointExposure) : (s.setExposure k x).gu = s.gu := rfl
@[simp] theorem State.setExposure_rr (k : PointId) (x : PointExposure) : (s.setExposure k x).rr = s.rr := rfl
@[simp] theorem State.setExposure_nu (k : PointId) (x : PointExposure) : (s.setExposure k x).nu = s.nu := rfl
@[simp] theorem State.setExposure_la (k : PointId) (x : PointExposure) : (s.setExposure k x).la = s.la := rfl
@[simp] theorem State.setExposure_st (k : PointId) (x : PointExposure) : (s.setExposure k x).st = s.st := rfl
@[simp] theorem State.setExposure_draws (k : PointId) (x : PointExposure) : (s.setExposure k x).draws = s.draws := rfl
@[simp] theorem State.setExposure_pending (k : PointId) (x : PointExposure) : (s.setExposure k x).pending = s.pending := rfl

/-! ### setGrant -/

@[simp] theorem State.setGrant_powered (t : StageId) (x : Grant) : (s.setGrant t x).powered = s.powered := rfl
@[simp] theorem State.setGrant_settings (t : StageId) (x : Grant) : (s.setGrant t x).settings = s.settings := rfl
@[simp] theorem State.setGrant_sp (t : StageId) (x : Grant) : (s.setGrant t x).sp = s.sp := rfl
@[simp] theorem State.setGrant_pm (t : StageId) (x : Grant) : (s.setGrant t x).pm = s.pm := rfl
@[simp] theorem State.setGrant_ei (t : StageId) (x : Grant) : (s.setGrant t x).ei = s.ei := rfl
@[simp] theorem State.setGrant_su (t : StageId) (x : Grant) : (s.setGrant t x).su = s.su := rfl
@[simp] theorem State.setGrant_cs (t : StageId) (x : Grant) : (s.setGrant t x).cs = s.cs := rfl
@[simp] theorem State.setGrant_ae (t : StageId) (x : Grant) : (s.setGrant t x).ae = s.ae := rfl
@[simp] theorem State.setGrant_gu (t : StageId) (x : Grant) : (s.setGrant t x).gu = { s.gu with grants := s.gu.grants.set t x } := rfl
@[simp] theorem State.setGrant_rr (t : StageId) (x : Grant) : (s.setGrant t x).rr = s.rr := rfl
@[simp] theorem State.setGrant_nu (t : StageId) (x : Grant) : (s.setGrant t x).nu = s.nu := rfl
@[simp] theorem State.setGrant_la (t : StageId) (x : Grant) : (s.setGrant t x).la = s.la := rfl
@[simp] theorem State.setGrant_st (t : StageId) (x : Grant) : (s.setGrant t x).st = s.st := rfl
@[simp] theorem State.setGrant_draws (t : StageId) (x : Grant) : (s.setGrant t x).draws = s.draws := rfl
@[simp] theorem State.setGrant_pending (t : StageId) (x : Grant) : (s.setGrant t x).pending = s.pending := rfl

/-! ### withSettings -/

@[simp] theorem State.withSettings_powered (x : Settings) : (s.withSettings x).powered = s.powered := rfl
@[simp] theorem State.withSettings_settings (x : Settings) : (s.withSettings x).settings = x := rfl
@[simp] theorem State.withSettings_sp (x : Settings) : (s.withSettings x).sp = s.sp := rfl
@[simp] theorem State.withSettings_pm (x : Settings) : (s.withSettings x).pm = s.pm := rfl
@[simp] theorem State.withSettings_ei (x : Settings) : (s.withSettings x).ei = s.ei := rfl
@[simp] theorem State.withSettings_su (x : Settings) : (s.withSettings x).su = s.su := rfl
@[simp] theorem State.withSettings_cs (x : Settings) : (s.withSettings x).cs = s.cs := rfl
@[simp] theorem State.withSettings_ae (x : Settings) : (s.withSettings x).ae = s.ae := rfl
@[simp] theorem State.withSettings_gu (x : Settings) : (s.withSettings x).gu = s.gu := rfl
@[simp] theorem State.withSettings_rr (x : Settings) : (s.withSettings x).rr = s.rr := rfl
@[simp] theorem State.withSettings_nu (x : Settings) : (s.withSettings x).nu = s.nu := rfl
@[simp] theorem State.withSettings_la (x : Settings) : (s.withSettings x).la = s.la := rfl
@[simp] theorem State.withSettings_st (x : Settings) : (s.withSettings x).st = s.st := rfl
@[simp] theorem State.withSettings_draws (x : Settings) : (s.withSettings x).draws = s.draws := rfl
@[simp] theorem State.withSettings_pending (x : Settings) : (s.withSettings x).pending = s.pending := rfl

/-! ### setArb -/

@[simp] theorem State.setArb_powered (k : SlotId) (x : ArbSlot) : (s.setArb k x).powered = s.powered := rfl
@[simp] theorem State.setArb_settings (k : SlotId) (x : ArbSlot) : (s.setArb k x).settings = s.settings := rfl
@[simp] theorem State.setArb_sp (k : SlotId) (x : ArbSlot) : (s.setArb k x).sp = s.sp := rfl
@[simp] theorem State.setArb_pm (k : SlotId) (x : ArbSlot) : (s.setArb k x).pm = s.pm := rfl
@[simp] theorem State.setArb_ei (k : SlotId) (x : ArbSlot) : (s.setArb k x).ei = s.ei := rfl
@[simp] theorem State.setArb_su (k : SlotId) (x : ArbSlot) : (s.setArb k x).su = s.su := rfl
@[simp] theorem State.setArb_cs (k : SlotId) (x : ArbSlot) : (s.setArb k x).cs = s.cs := rfl
@[simp] theorem State.setArb_ae (k : SlotId) (x : ArbSlot) : (s.setArb k x).ae = s.ae := rfl
@[simp] theorem State.setArb_gu (k : SlotId) (x : ArbSlot) : (s.setArb k x).gu = s.gu := rfl
@[simp] theorem State.setArb_rr (k : SlotId) (x : ArbSlot) : (s.setArb k x).rr = s.rr := rfl
@[simp] theorem State.setArb_nu (k : SlotId) (x : ArbSlot) : (s.setArb k x).nu = s.nu := rfl
@[simp] theorem State.setArb_la (k : SlotId) (x : ArbSlot) : (s.setArb k x).la = { s.la with slots := s.la.slots.set k x } := rfl
@[simp] theorem State.setArb_st (k : SlotId) (x : ArbSlot) : (s.setArb k x).st = s.st := rfl
@[simp] theorem State.setArb_draws (k : SlotId) (x : ArbSlot) : (s.setArb k x).draws = s.draws := rfl
@[simp] theorem State.setArb_pending (k : SlotId) (x : ArbSlot) : (s.setArb k x).pending = s.pending := rfl

/-! ### setPendingSet -/

@[simp] theorem State.setPendingSet_powered (k : SlotId) (x : List Notice) : (s.setPendingSet k x).powered = s.powered := rfl
@[simp] theorem State.setPendingSet_settings (k : SlotId) (x : List Notice) : (s.setPendingSet k x).settings = s.settings := rfl
@[simp] theorem State.setPendingSet_sp (k : SlotId) (x : List Notice) : (s.setPendingSet k x).sp = s.sp := rfl
@[simp] theorem State.setPendingSet_pm (k : SlotId) (x : List Notice) : (s.setPendingSet k x).pm = s.pm := rfl
@[simp] theorem State.setPendingSet_ei (k : SlotId) (x : List Notice) : (s.setPendingSet k x).ei = s.ei := rfl
@[simp] theorem State.setPendingSet_su (k : SlotId) (x : List Notice) : (s.setPendingSet k x).su = s.su := rfl
@[simp] theorem State.setPendingSet_cs (k : SlotId) (x : List Notice) : (s.setPendingSet k x).cs = s.cs := rfl
@[simp] theorem State.setPendingSet_ae (k : SlotId) (x : List Notice) : (s.setPendingSet k x).ae = s.ae := rfl
@[simp] theorem State.setPendingSet_gu (k : SlotId) (x : List Notice) : (s.setPendingSet k x).gu = s.gu := rfl
@[simp] theorem State.setPendingSet_rr (k : SlotId) (x : List Notice) : (s.setPendingSet k x).rr = s.rr := rfl
@[simp] theorem State.setPendingSet_nu (k : SlotId) (x : List Notice) : (s.setPendingSet k x).nu = s.nu.set k { s.nu.get k with pending := x } := rfl
@[simp] theorem State.setPendingSet_la (k : SlotId) (x : List Notice) : (s.setPendingSet k x).la = s.la := rfl
@[simp] theorem State.setPendingSet_st (k : SlotId) (x : List Notice) : (s.setPendingSet k x).st = s.st := rfl
@[simp] theorem State.setPendingSet_draws (k : SlotId) (x : List Notice) : (s.setPendingSet k x).draws = s.draws := rfl
@[simp] theorem State.setPendingSet_pending (k : SlotId) (x : List Notice) : (s.setPendingSet k x).pending = s.pending := rfl

end Sys2Proof.Machine
end

