-- ==== Sys2Proof/Laws/Ops.lean ====
section
/-!
SUPPORT. What an offer, a posting and a report can do: they change the ring, the pending sets and (a free order) the count of draws, and
no other field. Each shared operation has one lemma per field, and the lemmas below them say what happens to the ring.
-/

namespace Sys2Proof.Machine

variable (s : State)

/-! ### offerQuiet -/

@[simp] theorem offerQuiet_powered (b : RecordBody) : (offerQuiet b s).powered = s.powered := rfl
@[simp] theorem offerQuiet_settings (b : RecordBody) : (offerQuiet b s).settings = s.settings := rfl
@[simp] theorem offerQuiet_sp (b : RecordBody) : (offerQuiet b s).sp = s.sp := rfl
@[simp] theorem offerQuiet_pm (b : RecordBody) : (offerQuiet b s).pm = s.pm := rfl
@[simp] theorem offerQuiet_ei (b : RecordBody) : (offerQuiet b s).ei = s.ei := rfl
@[simp] theorem offerQuiet_su (b : RecordBody) : (offerQuiet b s).su = s.su := rfl
@[simp] theorem offerQuiet_cs (b : RecordBody) : (offerQuiet b s).cs = s.cs := rfl
@[simp] theorem offerQuiet_ae (b : RecordBody) : (offerQuiet b s).ae = s.ae := rfl
@[simp] theorem offerQuiet_gu (b : RecordBody) : (offerQuiet b s).gu = s.gu := rfl
@[simp] theorem offerQuiet_nu (b : RecordBody) : (offerQuiet b s).nu = s.nu := rfl
@[simp] theorem offerQuiet_la (b : RecordBody) : (offerQuiet b s).la = s.la := rfl
@[simp] theorem offerQuiet_st (b : RecordBody) : (offerQuiet b s).st = s.st := rfl
@[simp] theorem offerQuiet_draws (b : RecordBody) : (offerQuiet b s).draws = s.draws := rfl
@[simp] theorem offerQuiet_pending (b : RecordBody) : (offerQuiet b s).pending = s.pending := rfl

/-! ### post -/

@[simp] theorem post_powered (n : Notice) : (post n s).powered = s.powered := rfl
@[simp] theorem post_settings (n : Notice) : (post n s).settings = s.settings := rfl
@[simp] theorem post_sp (n : Notice) : (post n s).sp = s.sp := rfl
@[simp] theorem post_pm (n : Notice) : (post n s).pm = s.pm := rfl
@[simp] theorem post_ei (n : Notice) : (post n s).ei = s.ei := rfl
@[simp] theorem post_su (n : Notice) : (post n s).su = s.su := rfl
@[simp] theorem post_cs (n : Notice) : (post n s).cs = s.cs := rfl
@[simp] theorem post_ae (n : Notice) : (post n s).ae = s.ae := rfl
@[simp] theorem post_gu (n : Notice) : (post n s).gu = s.gu := rfl
@[simp] theorem post_rr (n : Notice) : (post n s).rr = s.rr := rfl
@[simp] theorem post_la (n : Notice) : (post n s).la = s.la := rfl
@[simp] theorem post_st (n : Notice) : (post n s).st = s.st := rfl
@[simp] theorem post_draws (n : Notice) : (post n s).draws = s.draws := rfl
@[simp] theorem post_pending (n : Notice) : (post n s).pending = s.pending := rfl

/-! ### offer -/

/-- What an offer can be: the quiet offer, or that with a RING notice where it crosses the threshold (R168). -/
theorem offer_cases (b : RecordBody) :
    offer b s = offerQuiet b s ∨
    (s.rr.list.length < s.settings.timing.threshold ∧
      s.settings.timing.threshold ≤ (offerQuiet b s).rr.list.length ∧
      offer b s = post (.ring (offerQuiet b s).rr.list.length) (offerQuiet b s)) := by
  unfold offer
  dsimp only
  split
  · rename_i h
    exact .inr ⟨h.1, h.2, rfl⟩
  · exact .inl rfl


@[simp] theorem offer_powered (b : RecordBody) : (offer b s).powered = s.powered := by rcases offer_cases s b with h | ⟨_, _, h⟩ <;> rw [h] <;> rfl
@[simp] theorem offer_settings (b : RecordBody) : (offer b s).settings = s.settings := by rcases offer_cases s b with h | ⟨_, _, h⟩ <;> rw [h] <;> rfl
@[simp] theorem offer_sp (b : RecordBody) : (offer b s).sp = s.sp := by rcases offer_cases s b with h | ⟨_, _, h⟩ <;> rw [h] <;> rfl
@[simp] theorem offer_pm (b : RecordBody) : (offer b s).pm = s.pm := by rcases offer_cases s b with h | ⟨_, _, h⟩ <;> rw [h] <;> rfl
@[simp] theorem offer_ei (b : RecordBody) : (offer b s).ei = s.ei := by rcases offer_cases s b with h | ⟨_, _, h⟩ <;> rw [h] <;> rfl
@[simp] theorem offer_su (b : RecordBody) : (offer b s).su = s.su := by rcases offer_cases s b with h | ⟨_, _, h⟩ <;> rw [h] <;> rfl
@[simp] theorem offer_cs (b : RecordBody) : (offer b s).cs = s.cs := by rcases offer_cases s b with h | ⟨_, _, h⟩ <;> rw [h] <;> rfl
@[simp] theorem offer_ae (b : RecordBody) : (offer b s).ae = s.ae := by rcases offer_cases s b with h | ⟨_, _, h⟩ <;> rw [h] <;> rfl
@[simp] theorem offer_gu (b : RecordBody) : (offer b s).gu = s.gu := by rcases offer_cases s b with h | ⟨_, _, h⟩ <;> rw [h] <;> rfl
@[simp] theorem offer_la (b : RecordBody) : (offer b s).la = s.la := by rcases offer_cases s b with h | ⟨_, _, h⟩ <;> rw [h] <;> rfl
@[simp] theorem offer_st (b : RecordBody) : (offer b s).st = s.st := by rcases offer_cases s b with h | ⟨_, _, h⟩ <;> rw [h] <;> rfl
@[simp] theorem offer_draws (b : RecordBody) : (offer b s).draws = s.draws := by rcases offer_cases s b with h | ⟨_, _, h⟩ <;> rw [h] <;> rfl
@[simp] theorem offer_pending (b : RecordBody) : (offer b s).pending = s.pending := by rcases offer_cases s b with h | ⟨_, _, h⟩ <;> rw [h] <;> rfl

/-! ### report -/

@[simp] theorem report_powered (r : Report) : (report r s).powered = s.powered := by unfold report; dsimp only; split <;> simp
@[simp] theorem report_settings (r : Report) : (report r s).settings = s.settings := by unfold report; dsimp only; split <;> simp
@[simp] theorem report_sp (r : Report) : (report r s).sp = s.sp := by unfold report; dsimp only; split <;> simp
@[simp] theorem report_pm (r : Report) : (report r s).pm = s.pm := by unfold report; dsimp only; split <;> simp
@[simp] theorem report_ei (r : Report) : (report r s).ei = s.ei := by unfold report; dsimp only; split <;> simp
@[simp] theorem report_su (r : Report) : (report r s).su = s.su := by unfold report; dsimp only; split <;> simp
@[simp] theorem report_cs (r : Report) : (report r s).cs = s.cs := by unfold report; dsimp only; split <;> simp
@[simp] theorem report_ae (r : Report) : (report r s).ae = s.ae := by unfold report; dsimp only; split <;> simp
@[simp] theorem report_gu (r : Report) : (report r s).gu = s.gu := by unfold report; dsimp only; split <;> simp
@[simp] theorem report_la (r : Report) : (report r s).la = s.la := by unfold report; dsimp only; split <;> simp
@[simp] theorem report_st (r : Report) : (report r s).st = s.st := by unfold report; dsimp only; split <;> simp
@[simp] theorem report_draws (r : Report) : (report r s).draws = s.draws := by unfold report; dsimp only; split <;> simp
@[simp] theorem report_pending (r : Report) : (report r s).pending = s.pending := by unfold report; dsimp only; split <;> simp

/-! ### reportAll -/

@[simp] theorem reportAll_powered (rs : List Report) : (reportAll rs s).powered = s.powered := by
  induction rs generalizing s with
  | nil => rfl
  | cons a as ih => exact (ih (report a s)).trans (report_powered s a)
@[simp] theorem reportAll_settings (rs : List Report) : (reportAll rs s).settings = s.settings := by
  induction rs generalizing s with
  | nil => rfl
  | cons a as ih => exact (ih (report a s)).trans (report_settings s a)
@[simp] theorem reportAll_sp (rs : List Report) : (reportAll rs s).sp = s.sp := by
  induction rs generalizing s with
  | nil => rfl
  | cons a as ih => exact (ih (report a s)).trans (report_sp s a)
@[simp] theorem reportAll_pm (rs : List Report) : (reportAll rs s).pm = s.pm := by
  induction rs generalizing s with
  | nil => rfl
  | cons a as ih => exact (ih (report a s)).trans (report_pm s a)
@[simp] theorem reportAll_ei (rs : List Report) : (reportAll rs s).ei = s.ei := by
  induction rs generalizing s with
  | nil => rfl
  | cons a as ih => exact (ih (report a s)).trans (report_ei s a)
@[simp] theorem reportAll_su (rs : List Report) : (reportAll rs s).su = s.su := by
  induction rs generalizing s with
  | nil => rfl
  | cons a as ih => exact (ih (report a s)).trans (report_su s a)
@[simp] theorem reportAll_cs (rs : List Report) : (reportAll rs s).cs = s.cs := by
  induction rs generalizing s with
  | nil => rfl
  | cons a as ih => exact (ih (report a s)).trans (report_cs s a)
@[simp] theorem reportAll_ae (rs : List Report) : (reportAll rs s).ae = s.ae := by
  induction rs generalizing s with
  | nil => rfl
  | cons a as ih => exact (ih (report a s)).trans (report_ae s a)
@[simp] theorem reportAll_gu (rs : List Report) : (reportAll rs s).gu = s.gu := by
  induction rs generalizing s with
  | nil => rfl
  | cons a as ih => exact (ih (report a s)).trans (report_gu s a)
@[simp] theorem reportAll_la (rs : List Report) : (reportAll rs s).la = s.la := by
  induction rs generalizing s with
  | nil => rfl
  | cons a as ih => exact (ih (report a s)).trans (report_la s a)
@[simp] theorem reportAll_st (rs : List Report) : (reportAll rs s).st = s.st := by
  induction rs generalizing s with
  | nil => rfl
  | cons a as ih => exact (ih (report a s)).trans (report_st s a)
@[simp] theorem reportAll_draws (rs : List Report) : (reportAll rs s).draws = s.draws := by
  induction rs generalizing s with
  | nil => rfl
  | cons a as ih => exact (ih (report a s)).trans (report_draws s a)
@[simp] theorem reportAll_pending (rs : List Report) : (reportAll rs s).pending = s.pending := by
  induction rs generalizing s with
  | nil => rfl
  | cons a as ih => exact (ih (report a s)).trans (report_pending s a)

/-! ### offerAllQuiet -/

@[simp] theorem offerAllQuiet_powered (bs : List RecordBody) : (offerAllQuiet bs s).powered = s.powered := by
  induction bs generalizing s with
  | nil => rfl
  | cons a as ih => exact (ih (offerQuiet a s)).trans (offerQuiet_powered s a)
@[simp] theorem offerAllQuiet_settings (bs : List RecordBody) : (offerAllQuiet bs s).settings = s.settings := by
  induction bs generalizing s with
  | nil => rfl
  | cons a as ih => exact (ih (offerQuiet a s)).trans (offerQuiet_settings s a)
@[simp] theorem offerAllQuiet_sp (bs : List RecordBody) : (offerAllQuiet bs s).sp = s.sp := by
  induction bs generalizing s with
  | nil => rfl
  | cons a as ih => exact (ih (offerQuiet a s)).trans (offerQuiet_sp s a)
@[simp] theorem offerAllQuiet_pm (bs : List RecordBody) : (offerAllQuiet bs s).pm = s.pm := by
  induction bs generalizing s with
  | nil => rfl
  | cons a as ih => exact (ih (offerQuiet a s)).trans (offerQuiet_pm s a)
@[simp] theorem offerAllQuiet_ei (bs : List RecordBody) : (offerAllQuiet bs s).ei = s.ei := by
  induction bs generalizing s with
  | nil => rfl
  | cons a as ih => exact (ih (offerQuiet a s)).trans (offerQuiet_ei s a)
@[simp] theorem offerAllQuiet_su (bs : List RecordBody) : (offerAllQuiet bs s).su = s.su := by
  induction bs generalizing s with
  | nil => rfl
  | cons a as ih => exact (ih (offerQuiet a s)).trans (offerQuiet_su s a)
@[simp] theorem offerAllQuiet_cs (bs : List RecordBody) : (offerAllQuiet bs s).cs = s.cs := by
  induction bs generalizing s with
  | nil => rfl
  | cons a as ih => exact (ih (offerQuiet a s)).trans (offerQuiet_cs s a)
@[simp] theorem offerAllQuiet_ae (bs : List RecordBody) : (offerAllQuiet bs s).ae = s.ae := by
  induction bs generalizing s with
  | nil => rfl
  | cons a as ih => exact (ih (offerQuiet a s)).trans (offerQuiet_ae s a)
@[simp] theorem offerAllQuiet_gu (bs : List RecordBody) : (offerAllQuiet bs s).gu = s.gu := by
  induction bs generalizing s with
  | nil => rfl
  | cons a as ih => exact (ih (offerQuiet a s)).trans (offerQuiet_gu s a)
@[simp] theorem offerAllQuiet_nu (bs : List RecordBody) : (offerAllQuiet bs s).nu = s.nu := by
  induction bs generalizing s with
  | nil => rfl
  | cons a as ih => exact (ih (offerQuiet a s)).trans (offerQuiet_nu s a)
@[simp] theorem offerAllQuiet_la (bs : List RecordBody) : (offerAllQuiet bs s).la = s.la := by
  induction bs generalizing s with
  | nil => rfl
  | cons a as ih => exact (ih (offerQuiet a s)).trans (offerQuiet_la s a)
@[simp] theorem offerAllQuiet_st (bs : List RecordBody) : (offerAllQuiet bs s).st = s.st := by
  induction bs generalizing s with
  | nil => rfl
  | cons a as ih => exact (ih (offerQuiet a s)).trans (offerQuiet_st s a)
@[simp] theorem offerAllQuiet_draws (bs : List RecordBody) : (offerAllQuiet bs s).draws = s.draws := by
  induction bs generalizing s with
  | nil => rfl
  | cons a as ih => exact (ih (offerQuiet a s)).trans (offerQuiet_draws s a)
@[simp] theorem offerAllQuiet_pending (bs : List RecordBody) : (offerAllQuiet bs s).pending = s.pending := by
  induction bs generalizing s with
  | nil => rfl
  | cons a as ih => exact (ih (offerQuiet a s)).trans (offerQuiet_pending s a)

/-! ### reportEither -/

@[simp] theorem reportEither_powered (as bs : List Report) : (reportEither as bs s).powered = s.powered := by
  unfold reportEither; split
  · simp
  · dsimp only; split <;> simp
@[simp] theorem reportEither_settings (as bs : List Report) : (reportEither as bs s).settings = s.settings := by
  unfold reportEither; split
  · simp
  · dsimp only; split <;> simp
@[simp] theorem reportEither_sp (as bs : List Report) : (reportEither as bs s).sp = s.sp := by
  unfold reportEither; split
  · simp
  · dsimp only; split <;> simp
@[simp] theorem reportEither_pm (as bs : List Report) : (reportEither as bs s).pm = s.pm := by
  unfold reportEither; split
  · simp
  · dsimp only; split <;> simp
@[simp] theorem reportEither_ei (as bs : List Report) : (reportEither as bs s).ei = s.ei := by
  unfold reportEither; split
  · simp
  · dsimp only; split <;> simp
@[simp] theorem reportEither_su (as bs : List Report) : (reportEither as bs s).su = s.su := by
  unfold reportEither; split
  · simp
  · dsimp only; split <;> simp
@[simp] theorem reportEither_cs (as bs : List Report) : (reportEither as bs s).cs = s.cs := by
  unfold reportEither; split
  · simp
  · dsimp only; split <;> simp
@[simp] theorem reportEither_ae (as bs : List Report) : (reportEither as bs s).ae = s.ae := by
  unfold reportEither; split
  · simp
  · dsimp only; split <;> simp
@[simp] theorem reportEither_gu (as bs : List Report) : (reportEither as bs s).gu = s.gu := by
  unfold reportEither; split
  · simp
  · dsimp only; split <;> simp
@[simp] theorem reportEither_la (as bs : List Report) : (reportEither as bs s).la = s.la := by
  unfold reportEither; split
  · simp
  · dsimp only; split <;> simp
@[simp] theorem reportEither_st (as bs : List Report) : (reportEither as bs s).st = s.st := by
  unfold reportEither; split
  · simp
  · dsimp only; split <;> simp
@[simp] theorem reportEither_pending (as bs : List Report) : (reportEither as bs s).pending = s.pending := by
  unfold reportEither; split
  · simp
  · dsimp only; split <;> simp

/-! ### What the ring holds -/

@[simp] theorem offer_rr (b : RecordBody) : (offer b s).rr = s.rr.offer s.su.clock b := by
  rcases offer_cases s b with h | ⟨_, _, h⟩ <;> rw [h] <;> rfl

@[simp] theorem report_rr (r : Report) : (report r s).rr = s.rr.offer s.su.clock r.body := by
  unfold report; dsimp only; split <;> simp

theorem dropOldestSummary_length (l : List Record) (h : l.any (·.body.isSummary) = true) :
    (dropOldestSummary l).length + 1 = l.length := by
  induction l with
  | nil => simp at h
  | cons r rs ih =>
    unfold dropOldestSummary
    split
    · simp
    · rename_i hr
      have : rs.any (·.body.isSummary) = true := by simpa [hr] using h
      simpa using ih this

/-- An offer grows the list by one below the capacity and keeps its length at it (R163, R164). -/
theorem keptAfterOffer_length (l : List Record) (r : Record) :
    (keptAfterOffer l r).length = if l.length < ringCapacity then l.length + 1 else l.length := by
  unfold keptAfterOffer
  split
  · simp
  · split
    · rfl
    · split
      · rename_i h
        simpa using dropOldestSummary_length l h
      · rfl

theorem RecordRing.offer_bounded (q : RecordRing) (c : Time) (b : RecordBody) (h : q.list.length ≤ ringCapacity) :
    (q.offer c b).list.length ≤ ringCapacity := by
  have := keptAfterOffer_length q.list ⟨q.next, c, b⟩
  simp only [RecordRing.offer, this]
  split <;> omega

@[simp] theorem RecordRing.offer_next (q : RecordRing) (c : Time) (b : RecordBody) :
    (q.offer c b).next = (q.next + 1) % 2 ^ 32 := rfl

/-- Reports in order keep any property of the ring that every offer keeps. -/
theorem reportAll_ring (P : RecordRing → Prop) (hP : ∀ q c b, P q → P (q.offer c b)) (rs : List Report) (h : P s.rr) :
    P (reportAll rs s).rr := by
  induction rs generalizing s with
  | nil => exact h
  | cons r rs ih => exact ih (report r s) (by rw [report_rr]; exact hP _ _ _ h)

/-- Reports of two blocks keep any property of the ring that every offer keeps, in either order. -/
theorem reportEither_ring (P : RecordRing → Prop) (hP : ∀ q c b, P q → P (q.offer c b)) (as bs : List Report) (h : P s.rr) :
    P (reportEither as bs s).rr := by
  unfold reportEither
  split
  · exact reportAll_ring s P hP _ h
  · dsimp only
    split
    · exact reportAll_ring _ P hP _ h
    · exact reportAll_ring _ P hP _ h

/-- Quiet offers keep any property of the ring that every offer keeps. -/
theorem offerAllQuiet_ring (P : RecordRing → Prop) (hP : ∀ q c b, P q → P (q.offer c b)) (bs : List RecordBody) (h : P s.rr) :
    P (offerAllQuiet bs s).rr := by
  induction bs generalizing s with
  | nil => exact h
  | cons b bs ih => exact ih (offerQuiet b s) (hP _ _ _ h)

/-! ### What the pending sets hold -/

@[simp] theorem post_nu (n : Notice) (k : SlotId) :
    (post n s).nu.get k =
      if s.settings.reaches n k then { s.nu.get k with pending := putNotice n (s.nu.get k).pending } else s.nu.get k := by
  simp [post]

/-- Every notice of a set after a posting was there before, or is the one posted. -/
theorem mem_putNotice {n x : Notice} {l : List Notice} (h : x ∈ putNotice n l) : x = n ∨ x ∈ l := by
  induction l with
  | nil => simpa [putNotice] using h
  | cons m ms ih =>
    unfold putNotice at h
    split at h
    · simpa using h
    · split at h
      · rcases List.mem_cons.1 h with h | h
        · exact .inl h
        · exact .inr (List.mem_cons_of_mem _ h)
      · rcases List.mem_cons.1 h with h | h
        · exact .inr (by simp [h])
        · exact (ih h).imp id (List.mem_cons_of_mem _)

/-- A posting keeps a set in order of priority with each class once (R172). -/
theorem putNotice_ordered (n : Notice) (l : List Notice) (h : (l.map Notice.rank).Pairwise (· < ·)) :
    ((putNotice n l).map Notice.rank).Pairwise (· < ·) := by
  induction l with
  | nil => simp [putNotice]
  | cons m ms ih =>
    have hm := List.pairwise_cons.1 h
    unfold putNotice
    split
    · rename_i hlt
      refine List.pairwise_cons.2 ⟨?_, h⟩
      intro b hb
      rcases List.mem_cons.1 hb with hb | hb
      · exact hb ▸ hlt
      · exact hlt.trans (hm.1 b hb)
    · split
      · rename_i heq
        refine List.pairwise_cons.2 ⟨?_, hm.2⟩
        intro b hb
        exact heq ▸ hm.1 b hb
      · rename_i h1 h2
        refine List.pairwise_cons.2 ⟨?_, ih hm.2⟩
        intro b hb
        obtain ⟨x, hx, rfl⟩ := List.mem_map.1 hb
        rcases mem_putNotice hx with rfl | hx
        · omega
        · exact hm.1 _ (List.mem_map_of_mem hx)

/-- The set after a posting holds the notice posted. -/
theorem mem_putNotice_self (n : Notice) (l : List Notice) : n ∈ putNotice n l := by
  induction l with
  | nil => simp [putNotice]
  | cons m ms ih =>
    unfold putNotice
    split
    · simp
    · split
      · simp
      · simp [ih]

end Sys2Proof.Machine
end

