-- ==== Sys2Proof/Laws/Engine.lean ====
section
/-!
SUPPORT. What the start of a pass, the idle step and the store's operations can do, once each.
-/

namespace Sys2Proof.Machine

variable (s : State)

/-! ### startPass -/

@[simp] theorem startPass_powered (snap : Snapshot) : (startPass snap s).powered = s.powered := by simp [startPass]
@[simp] theorem startPass_settings (snap : Snapshot) : (startPass snap s).settings = s.settings := by simp [startPass]
@[simp] theorem startPass_sp (snap : Snapshot) : (startPass snap s).sp = s.sp := by simp [startPass]
@[simp] theorem startPass_pm (snap : Snapshot) : (startPass snap s).pm = s.pm := by simp [startPass]
@[simp] theorem startPass_ei (snap : Snapshot) : (startPass snap s).ei = s.ei := by simp [startPass]
@[simp] theorem startPass_su (snap : Snapshot) : (startPass snap s).su = s.su := by simp [startPass]
@[simp] theorem startPass_cs (snap : Snapshot) : (startPass snap s).cs = s.cs := by simp [startPass]
@[simp] theorem startPass_gu (snap : Snapshot) : (startPass snap s).gu = s.gu := by simp [startPass]
@[simp] theorem startPass_la (snap : Snapshot) : (startPass snap s).la = s.la := by simp [startPass]
@[simp] theorem startPass_st (snap : Snapshot) : (startPass snap s).st = s.st := by simp [startPass]
@[simp] theorem startPass_draws (snap : Snapshot) : (startPass snap s).draws = s.draws := by simp [startPass]
@[simp] theorem startPass_pending (snap : Snapshot) : (startPass snap s).pending = s.pending := by simp [startPass]

/-- The engine after a pass started: its pass is in flight on the snapshot, and none waits. -/
theorem startPass_ae (snap : Snapshot) :
    (startPass snap s).ae.handed = none ∧ (startPass snap s).ae.figures = s.ae.figures ∧
    ∃ i, (startPass snap s).ae.pass = some i ∧ i.snap = snap ∧ (startPass snap s).ae.activity = i.activity := by
  simp [startPass]

/-- The start of a pass keeps any property of the ring that every offer keeps. -/
theorem startPass_ring (P : RecordRing → Prop) (hP : ∀ q c b, P q → P (q.offer c b)) (snap : Snapshot) (h : P s.rr) :
    P (startPass snap s).rr := reportAll_ring _ P hP _ h

/-! ### startWaiting and the idle step -/

/-- A waiting snapshot is taken where no pass is in flight; otherwise nothing happens (R110). -/
theorem startWaiting_cases :
    (∃ snap, s.ae.pass = none ∧ s.ae.handed = some snap ∧ startWaiting s = startPass snap s) ∨
    ((s.ae.pass ≠ none ∨ s.ae.handed = none) ∧ startWaiting s = s) := by
  unfold startWaiting
  split
  · rename_i snap hp hh
    exact .inl ⟨snap, hp, hh, rfl⟩
  · rename_i h
    refine .inr ⟨?_, rfl⟩
    by_cases hp : s.ae.pass = none
    · cases hh : s.ae.handed with
      | none => exact .inr rfl
      | some snap => exact absurd hh (h snap hp)
    · exact .inl hp

/-- What the idle step can do: start the waiting pass of a powered part, or nothing. -/
theorem idle_cases : (s.powered = true ∧ idle s = startWaiting s) ∨ (s.powered = false ∧ idle s = s) := by
  unfold idle
  cases h : s.powered <;> simp

/-- The step on an empty queue idles. -/
theorem step_empty (h : s.pending = []) : step s = .next (idle s) := by simp [step, h]

/-- The step on a queue runs its front. -/
theorem step_front (c : Instr) (rest : List Instr) (h : s.pending = c :: rest) :
    step s = exec c { s with pending := rest } := by simp [step, h]

/-! ### The hand-over of a snapshot (R58, R101, R110) -/

/-- The survey's second changes the survey and the pending sets alone (R96 to R103). -/
theorem surveySnapshot_frame (snap : Snapshot) :
    surveySnapshot snap s = { s with cs := (surveySnapshot snap s).cs, nu := (surveySnapshot snap s).nu } := by
  unfold surveySnapshot
  split
  · split <;> rfl
  · dsimp only
    split
    · unfold endSignal
      split
      · rfl
      · split <;> rfl
    · rfl
  · rfl

/-- The three ways a snapshot is handed over: taken before the survey counts it, after that, or left waiting. -/
theorem handOver_cases (snap : Snapshot) :
    let x := { s with ae := { s.ae with handed := some snap }, draws := s.draws + 1 }
    handOver snap s = surveySnapshot snap (startWaiting x) ∨ handOver snap s = startWaiting (surveySnapshot snap x) ∨
      handOver snap s = surveySnapshot snap x := by
  unfold handOver
  dsimp only
  split <;> simp

@[simp] theorem startWaiting_powered : (startWaiting s).powered = s.powered := by
  rcases startWaiting_cases s with ⟨snap, _, _, h⟩ | ⟨_, h⟩ <;> simp [h]
@[simp] theorem surveySnapshot_powered (snap : Snapshot) : (surveySnapshot snap s).powered = s.powered := by rw [surveySnapshot_frame]
@[simp] theorem handOver_powered (snap : Snapshot) : (handOver snap s).powered = s.powered := by
  rcases handOver_cases s snap with h | h | h <;> simp [h]
@[simp] theorem startWaiting_settings : (startWaiting s).settings = s.settings := by
  rcases startWaiting_cases s with ⟨snap, _, _, h⟩ | ⟨_, h⟩ <;> simp [h]
@[simp] theorem surveySnapshot_settings (snap : Snapshot) : (surveySnapshot snap s).settings = s.settings := by rw [surveySnapshot_frame]
@[simp] theorem handOver_settings (snap : Snapshot) : (handOver snap s).settings = s.settings := by
  rcases handOver_cases s snap with h | h | h <;> simp [h]
@[simp] theorem startWaiting_sp : (startWaiting s).sp = s.sp := by
  rcases startWaiting_cases s with ⟨snap, _, _, h⟩ | ⟨_, h⟩ <;> simp [h]
@[simp] theorem surveySnapshot_sp (snap : Snapshot) : (surveySnapshot snap s).sp = s.sp := by rw [surveySnapshot_frame]
@[simp] theorem handOver_sp (snap : Snapshot) : (handOver snap s).sp = s.sp := by
  rcases handOver_cases s snap with h | h | h <;> simp [h]
@[simp] theorem startWaiting_pm : (startWaiting s).pm = s.pm := by
  rcases startWaiting_cases s with ⟨snap, _, _, h⟩ | ⟨_, h⟩ <;> simp [h]
@[simp] theorem surveySnapshot_pm (snap : Snapshot) : (surveySnapshot snap s).pm = s.pm := by rw [surveySnapshot_frame]
@[simp] theorem handOver_pm (snap : Snapshot) : (handOver snap s).pm = s.pm := by
  rcases handOver_cases s snap with h | h | h <;> simp [h]
@[simp] theorem startWaiting_ei : (startWaiting s).ei = s.ei := by
  rcases startWaiting_cases s with ⟨snap, _, _, h⟩ | ⟨_, h⟩ <;> simp [h]
@[simp] theorem surveySnapshot_ei (snap : Snapshot) : (surveySnapshot snap s).ei = s.ei := by rw [surveySnapshot_frame]
@[simp] theorem handOver_ei (snap : Snapshot) : (handOver snap s).ei = s.ei := by
  rcases handOver_cases s snap with h | h | h <;> simp [h]
@[simp] theorem startWaiting_su : (startWaiting s).su = s.su := by
  rcases startWaiting_cases s with ⟨snap, _, _, h⟩ | ⟨_, h⟩ <;> simp [h]
@[simp] theorem surveySnapshot_su (snap : Snapshot) : (surveySnapshot snap s).su = s.su := by rw [surveySnapshot_frame]
@[simp] theorem handOver_su (snap : Snapshot) : (handOver snap s).su = s.su := by
  rcases handOver_cases s snap with h | h | h <;> simp [h]
@[simp] theorem startWaiting_gu : (startWaiting s).gu = s.gu := by
  rcases startWaiting_cases s with ⟨snap, _, _, h⟩ | ⟨_, h⟩ <;> simp [h]
@[simp] theorem surveySnapshot_gu (snap : Snapshot) : (surveySnapshot snap s).gu = s.gu := by rw [surveySnapshot_frame]
@[simp] theorem handOver_gu (snap : Snapshot) : (handOver snap s).gu = s.gu := by
  rcases handOver_cases s snap with h | h | h <;> simp [h]
@[simp] theorem startWaiting_la : (startWaiting s).la = s.la := by
  rcases startWaiting_cases s with ⟨snap, _, _, h⟩ | ⟨_, h⟩ <;> simp [h]
@[simp] theorem surveySnapshot_la (snap : Snapshot) : (surveySnapshot snap s).la = s.la := by rw [surveySnapshot_frame]
@[simp] theorem handOver_la (snap : Snapshot) : (handOver snap s).la = s.la := by
  rcases handOver_cases s snap with h | h | h <;> simp [h]
@[simp] theorem startWaiting_st : (startWaiting s).st = s.st := by
  rcases startWaiting_cases s with ⟨snap, _, _, h⟩ | ⟨_, h⟩ <;> simp [h]
@[simp] theorem surveySnapshot_st (snap : Snapshot) : (surveySnapshot snap s).st = s.st := by rw [surveySnapshot_frame]
@[simp] theorem handOver_st (snap : Snapshot) : (handOver snap s).st = s.st := by
  rcases handOver_cases s snap with h | h | h <;> simp [h]
@[simp] theorem startWaiting_pending : (startWaiting s).pending = s.pending := by
  rcases startWaiting_cases s with ⟨snap, _, _, h⟩ | ⟨_, h⟩ <;> simp [h]
@[simp] theorem surveySnapshot_pending (snap : Snapshot) : (surveySnapshot snap s).pending = s.pending := by rw [surveySnapshot_frame]
@[simp] theorem handOver_pending (snap : Snapshot) : (handOver snap s).pending = s.pending := by
  rcases handOver_cases s snap with h | h | h <;> simp [h]

/-- What a boundary leaves but for the survey, the engine, the ring and the pending sets is what its closes leave. -/
theorem boundaryCloses_cases :
    boundaryCloses s = closeWork s ∨ boundaryCloses s = handOver (snapshotOf s (closeWork s)) (closeWork s) := by
  unfold boundaryCloses
  dsimp only
  split <;> simp

@[simp] theorem boundaryCloses_ei : (boundaryCloses s).ei = (closeWork s).ei := by
  rcases boundaryCloses_cases s with h | h <;> simp [h]

/-! ### The store (R194, R195) -/

/-- An image as a save writes it matches its check. -/
@[simp] theorem Store.written_matches (g : Settings) : (Store.written g).matches = true := by simp [Store.matches, Store.written]

/-- The load of an image as a save wrote it is that image. -/
@[simp] theorem Store.load_written (g : Settings) : (Store.written g).load = g := by simp [Store.load, Store.written_matches]; rfl

/-- An interrupted save leaves an image that fails its check, whatever the free check value is. -/
@[simp] theorem Store.torn_matches (st : Store) (draws : Nat) : (st.torn draws).matches = false := by
  simp only [Store.matches, Store.torn]
  refine decide_eq_false ?_
  split
  · rename_i h
    rw [h]
    intro e
    have := congrArg (fun v : BitVec 32 => v.getLsbD 0) e
    simp at this
  · rename_i h
    exact fun e => h e.symm

/-- The load after an interrupted save gives the factory defaults. -/
@[simp] theorem Store.load_torn (st : Store) (draws : Nat) : (st.torn draws).load = Settings.factory := by
  simp [Store.load]

/-- The load gives the image where its check matches and the factory defaults otherwise (R194). -/
theorem Store.load_cases (st : Store) :
    (st.matches = true ∧ st.load = st.image) ∨ (st.matches = false ∧ st.load = Settings.factory) := by
  unfold Store.load
  cases h : st.matches <;> simp

/-- What is left of the store at a power-up: as it stood, the image of the save, or an image that fails its check. -/
theorem Store.afterNpor_cases (st : Store) (draws : Nat) :
    (st.saving = none ∧ st.afterNpor draws = (st, draws)) ∨
    ∃ g, st.saving = some g ∧
      (st.afterNpor draws = ({ st with saving := none }, draws + 1) ∨ st.afterNpor draws = (.written g, draws + 1) ∨
        st.afterNpor draws = (st.torn draws, draws + 1)) := by
  unfold Store.afterNpor
  split
  · rename_i h; exact .inl ⟨h, rfl⟩
  · rename_i g h
    refine .inr ⟨g, h, ?_⟩
    split <;> simp

/-! ### The resets (R194, R196, R197) -/

@[simp] theorem judgeRing_settings (n old : Nat) : (judgeRing n old s).settings = s.settings := by unfold judgeRing; split <;> simp
@[simp] theorem judgeRing_su (n old : Nat) : (judgeRing n old s).su = s.su := by unfold judgeRing; split <;> simp
@[simp] theorem freeLink_settings : (freeLink s).settings = s.settings := rfl
@[simp] theorem freeLink_su : (freeLink s).su = s.su := rfl
@[simp] theorem adjustBuckets_settings : (adjustBuckets s).settings = s.settings := rfl
@[simp] theorem adjustBuckets_su : (adjustBuckets s).su = s.su := rfl
@[simp] theorem resetHanded_settings : (resetHanded s).settings = s.settings := by unfold resetHanded; split <;> rfl
@[simp] theorem resetHanded_su : (resetHanded s).su = s.su := by unfold resetHanded; split <;> rfl

/-- A recomputation changes no stored setting and not the clock (R70). -/
theorem recompute_keeps : (recompute s).settings = s.settings ∧ (recompute s).su.clock = s.su.clock := by
  constructor <;> simp [recompute]

/-- A power-up works with what the load gives. -/
theorem powerUp_settings : (powerUp s).settings = (s.st.afterNpor s.draws).1.load := by
  simp [powerUp, State.afterPowerUp]

/-- A command reset works with what the load gives. -/
theorem commandReset_settings : (commandReset s).settings = s.st.load := by
  simp [commandReset, recompute_keeps, resetBlocks, resetLoad, resetEnds, clearSession, ScheduleUnit.dropPending]

/-- A command reset keeps the clock (R197). -/
theorem commandReset_clock : (commandReset s).su.clock = s.su.clock := by
  simp [commandReset, recompute_keeps, resetBlocks, resetLoad, resetEnds, clearSession, ScheduleUnit.dropPending]

end Sys2Proof.Machine
end

