-- ==== Sys2Proof/Laws/Link.lean ====
section
/-!
SUPPORT. What the link does with a request, once for all requests: an admitted one reaches its owner, and the owner's answer is sent; what
a command answers without supply.
-/

namespace Sys2Proof.Machine

/-- A powered part takes a command whole. -/
theorem whenPowered_on {s : State} (f : State → State) (h : s.powered = true) : whenPowered s f = .next (f s) := by
  simp [whenPowered, h]

/-- Without supply a command changes nothing. -/
theorem whenPowered_off {s : State} (f : State → State) (h : s.powered = false) : whenPowered s f = .next s := by
  simp [whenPowered, h]

/-- A frame's turn changes the link alone: it is the turn in progress, or the one that the parked slot's frame starts. -/
theorem frameTurn_cases {s u : State} {k : SlotId} (h : frameTurn s = some (k, u)) :
    (∃ b, s.la.link = .turn k b ∧ u = s) ∨ (s.la.link = .free (some k) ∧ u = { s with la := s.la.give k true }) := by
  unfold frameTurn at h
  split at h
  · rename_i j b hl
    cases h
    exact .inl ⟨b, hl, rfl⟩
  · rename_i j hl
    cases h
    exact .inr ⟨hl, rfl⟩
  · cases h

/-- The state a request reaches its owner in differs from the state before in the link arbiter alone. -/
theorem taken_eq {s u : State} {k : SlotId} (h : s.taken k = some u) : u = { s with la := u.la } := by
  unfold State.taken at h
  split at h
  · cases h
  · rename_i j v hv
    split at h
    · cases h
      rcases frameTurn_cases hv with ⟨b, _, rfl⟩ | ⟨_, rfl⟩ <;> rfl
    · cases h

/-- An admitted request reaches its owner, and the owner's answer is sent (R178, R188). -/
theorem serve_admitted {s u : State} {k : SlotId} {r : Request} {params : List Byte} (owner : Owner)
    (h : s.admits k r params u) :
    serve r owner params s = respond k (owner k params u).2 (owner k params u).1 := by
  obtain ⟨_, ht, ha, hp, hf⟩ := h
  have hs := taken_eq ht
  unfold State.taken at ht
  split at ht
  · cases ht
  · rename_i j v hv
    split at ht
    · rename_i hjk
      subst hjk
      cases ht
      have hset : v.settings = s.settings := by
        rcases frameTurn_cases hv with ⟨b, _, rfl⟩ | ⟨_, rfl⟩ <;> rfl
      have hf' : params.length ∈ r.forms := by simpa using hf
      simp [serve, arrive, hv, takeRequest, hset, ha, judge, hp, hf']
    · cases ht

/-- The same, as a command's outcome. -/
theorem serve_next {s u : State} {k : SlotId} {r : Request} {params : List Byte} (owner : Owner)
    (h : s.admits k r params u) :
    whenPowered s (serve r owner params) = .next (respond k (owner k params u).2 (owner k params u).1) := by
  rw [whenPowered_on _ h.1, serve_admitted owner h]

end Sys2Proof.Machine
end

