-- ==== Sys2Proof/Laws/PerInstr.lean ====
section
/-!
SUPPORT. The family Travels: a command that travels as a request frame is read back from its code and parameters, which fit the frame
(R201, R202). One lemma per command.
-/

namespace Sys2Proof.Laws

open Sys2Proof.Machine

/-- A well-formed command is the one its code and parameters are read as, and its parameters fit a frame. -/
def Travels.Statement (c : Instr) : Prop :=
  c.wellFormed = true → ∀ x, requestOf c = some x → commandOf x.1 x.2 = c ∧ x.2.length ≤ 59

/-- The code of a request names it (R202). -/
theorem ofCode_code (r : Request) : Request.ofCode r.code = some r := by cases r <;> decide

/-- What the lemmas of the requests share. -/
theorem travels_request (r : Request) (params : List Byte) (h : paramsFit params = true) :
    commandOf r.code params = r.command params ∧ params.length ≤ 59 := by
  refine ⟨?_, by simpa [paramsFit] using h⟩
  simp only [commandOf, ofCode_code]

theorem Travels.frameArrival (ch : ChannelId) (cand : List RxChar) : Travels.Statement (.frameArrival ch cand) := by
  intro _ x hx
  cases hx

theorem Travels.silenceTimerExpiry (ch : ChannelId) : Travels.Statement (.silenceTimerExpiry ch) := by
  intro _ x hx
  cases hx

theorem Travels.frameBoundary : Travels.Statement .frameBoundary := by
  intro _ x hx
  cases hx

theorem Travels.sessionEnd : Travels.Statement .sessionEnd := by
  intro _ x hx
  cases hx

theorem Travels.secondClose : Travels.Statement .secondClose := by
  intro _ x hx
  cases hx

theorem Travels.minuteClose : Travels.Statement .minuteClose := by
  intro _ x hx
  cases hx

theorem Travels.intervalClose : Travels.Statement .intervalClose := by
  intro _ x hx
  cases hx

theorem Travels.passResult : Travels.Statement .passResult := by
  intro _ x hx
  cases hx

theorem Travels.complianceTimerExpiry (stage : StageId) : Travels.Statement (.complianceTimerExpiry stage) := by
  intro _ x hx
  cases hx

theorem Travels.holdMinimumExpiry (stage : StageId) : Travels.Statement (.holdMinimumExpiry stage) := by
  intro _ x hx
  cases hx

theorem Travels.clockAdvance : Travels.Statement .clockAdvance := by
  intro _ x hx
  cases hx

theorem Travels.clockMinuteBoundary : Travels.Statement .clockMinuteBoundary := by
  intro _ x hx
  cases hx

theorem Travels.saveCompletion : Travels.Statement .saveCompletion := by
  intro _ x hx
  cases hx

theorem Travels.powerUp : Travels.Statement .powerUp := by
  intro _ x hx
  cases hx

theorem Travels.commandReset : Travels.Statement .commandReset := by
  intro _ x hx
  cases hx

theorem Travels.requestLineAsserted (slot : SlotId) : Travels.Statement (.requestLineAsserted slot) := by
  intro _ x hx
  cases hx

theorem Travels.requestLineReleased (slot : SlotId) : Travels.Statement (.requestLineReleased slot) := by
  intro _ x hx
  cases hx

theorem Travels.parkedWindowExpiry : Travels.Statement .parkedWindowExpiry := by
  intro _ x hx
  cases hx

theorem Travels.parkedFrameStart : Travels.Statement .parkedFrameStart := by
  intro _ x hx
  cases hx

theorem Travels.grantWindowExpiry : Travels.Statement .grantWindowExpiry := by
  intro _ x hx
  cases hx

theorem Travels.frameLengthExcess (length : Byte) : Travels.Statement (.frameLengthExcess length) := by
  intro _ x hx
  cases hx

theorem Travels.frameTimeLimit : Travels.Statement .frameTimeLimit := by
  intro _ x hx
  cases hx

theorem Travels.badFrameEnd (chars : List RxChar) : Travels.Statement (.badFrameEnd chars) := by
  intro _ x hx
  cases hx

theorem Travels.linkIdleGap : Travels.Statement .linkIdleGap := by
  intro _ x hx
  cases hx

theorem Travels.responseEnd : Travels.Statement .responseEnd := by
  intro _ x hx
  cases hx

theorem Travels.unknownRequest (code : Byte) (params : List Byte) : Travels.Statement (.unknownRequest code params) := by
  intro h x hx
  obtain rfl := Option.some.inj hx
  have h' := Bool.and_eq_true_iff.1 h
  refine ⟨?_, by simpa [paramsFit] using h'.2⟩
  simp only [commandOf, Option.isNone_iff_eq_none.1 h'.1]

theorem Travels.statusRead (params : List Byte) : Travels.Statement (.statusRead params) := by
  intro h x hx
  obtain rfl := Option.some.inj hx
  exact travels_request .statusRead params h

theorem Travels.levelsRead (params : List Byte) : Travels.Statement (.levelsRead params) := by
  intro h x hx
  obtain rfl := Option.some.inj hx
  exact travels_request .levelsRead params h

theorem Travels.noticeEnable (params : List Byte) : Travels.Statement (.noticeEnable params) := by
  intro h x hx
  obtain rfl := Option.some.inj hx
  exact travels_request .noticeEnable params h

theorem Travels.grantQuery (params : List Byte) : Travels.Statement (.grantQuery params) := by
  intro h x hx
  obtain rfl := Option.some.inj hx
  exact travels_request .grantQuery params h

theorem Travels.grantAck (params : List Byte) : Travels.Statement (.grantAck params) := by
  intro h x hx
  obtain rfl := Option.some.inj hx
  exact travels_request .grantAck params h

theorem Travels.sessionOpen (params : List Byte) : Travels.Statement (.sessionOpen params) := by
  intro h x hx
  obtain rfl := Option.some.inj hx
  exact travels_request .sessionOpen params h

theorem Travels.sessionClose (params : List Byte) : Travels.Statement (.sessionClose params) := by
  intro h x hx
  obtain rfl := Option.some.inj hx
  exact travels_request .sessionClose params h

theorem Travels.pointWrite (params : List Byte) : Travels.Statement (.pointWrite params) := by
  intro h x hx
  obtain rfl := Option.some.inj hx
  exact travels_request .pointWrite params h

theorem Travels.stageWrite (params : List Byte) : Travels.Statement (.stageWrite params) := by
  intro h x hx
  obtain rfl := Option.some.inj hx
  exact travels_request .stageWrite params h

theorem Travels.channelBind (params : List Byte) : Travels.Statement (.channelBind params) := by
  intro h x hx
  obtain rfl := Option.some.inj hx
  exact travels_request .channelBind params h

theorem Travels.shareWrite (params : List Byte) : Travels.Statement (.shareWrite params) := by
  intro h x hx
  obtain rfl := Option.some.inj hx
  exact travels_request .shareWrite params h

theorem Travels.couplingWrite (params : List Byte) : Travels.Statement (.couplingWrite params) := by
  intro h x hx
  obtain rfl := Option.some.inj hx
  exact travels_request .couplingWrite params h

theorem Travels.couplingRead (params : List Byte) : Travels.Statement (.couplingRead params) := by
  intro h x hx
  obtain rfl := Option.some.inj hx
  exact travels_request .couplingRead params h

theorem Travels.surveyStart (params : List Byte) : Travels.Statement (.surveyStart params) := by
  intro h x hx
  obtain rfl := Option.some.inj hx
  exact travels_request .surveyStart params h

theorem Travels.surveyAbort (params : List Byte) : Travels.Statement (.surveyAbort params) := by
  intro h x hx
  obtain rfl := Option.some.inj hx
  exact travels_request .surveyAbort params h

theorem Travels.surveyAccept (params : List Byte) : Travels.Statement (.surveyAccept params) := by
  intro h x hx
  obtain rfl := Option.some.inj hx
  exact travels_request .surveyAccept params h

theorem Travels.surveyDiscard (params : List Byte) : Travels.Statement (.surveyDiscard params) := by
  intro h x hx
  obtain rfl := Option.some.inj hx
  exact travels_request .surveyDiscard params h

theorem Travels.surveyRead (params : List Byte) : Travels.Statement (.surveyRead params) := by
  intro h x hx
  obtain rfl := Option.some.inj hx
  exact travels_request .surveyRead params h

theorem Travels.schedRead (params : List Byte) : Travels.Statement (.schedRead params) := by
  intro h x hx
  obtain rfl := Option.some.inj hx
  exact travels_request .schedRead params h

theorem Travels.schedWrite (params : List Byte) : Travels.Statement (.schedWrite params) := by
  intro h x hx
  obtain rfl := Option.some.inj hx
  exact travels_request .schedWrite params h

theorem Travels.schedClear (params : List Byte) : Travels.Statement (.schedClear params) := by
  intro h x hx
  obtain rfl := Option.some.inj hx
  exact travels_request .schedClear params h

theorem Travels.schedCommit (params : List Byte) : Travels.Statement (.schedCommit params) := by
  intro h x hx
  obtain rfl := Option.some.inj hx
  exact travels_request .schedCommit params h

theorem Travels.sessionLimitWrite (params : List Byte) : Travels.Statement (.sessionLimitWrite params) := by
  intro h x hx
  obtain rfl := Option.some.inj hx
  exact travels_request .sessionLimitWrite params h

theorem Travels.fallbackWrite (params : List Byte) : Travels.Statement (.fallbackWrite params) := by
  intro h x hx
  obtain rfl := Option.some.inj hx
  exact travels_request .fallbackWrite params h

theorem Travels.timeSet (params : List Byte) : Travels.Statement (.timeSet params) := by
  intro h x hx
  obtain rfl := Option.some.inj hx
  exact travels_request .timeSet params h

theorem Travels.roleWrite (params : List Byte) : Travels.Statement (.roleWrite params) := by
  intro h x hx
  obtain rfl := Option.some.inj hx
  exact travels_request .roleWrite params h

theorem Travels.dispatchWrite (params : List Byte) : Travels.Statement (.dispatchWrite params) := by
  intro h x hx
  obtain rfl := Option.some.inj hx
  exact travels_request .dispatchWrite params h

theorem Travels.holdForce (params : List Byte) : Travels.Statement (.holdForce params) := by
  intro h x hx
  obtain rfl := Option.some.inj hx
  exact travels_request .holdForce params h

theorem Travels.holdUnforce (params : List Byte) : Travels.Statement (.holdUnforce params) := by
  intro h x hx
  obtain rfl := Option.some.inj hx
  exact travels_request .holdUnforce params h

theorem Travels.recordRead (params : List Byte) : Travels.Statement (.recordRead params) := by
  intro h x hx
  obtain rfl := Option.some.inj hx
  exact travels_request .recordRead params h

theorem Travels.recordRelease (params : List Byte) : Travels.Statement (.recordRelease params) := by
  intro h x hx
  obtain rfl := Option.some.inj hx
  exact travels_request .recordRelease params h

theorem Travels.arbWrite (params : List Byte) : Travels.Statement (.arbWrite params) := by
  intro h x hx
  obtain rfl := Option.some.inj hx
  exact travels_request .arbWrite params h

theorem Travels.arbClear (params : List Byte) : Travels.Statement (.arbClear params) := by
  intro h x hx
  obtain rfl := Option.some.inj hx
  exact travels_request .arbClear params h

theorem Travels.timingWrite (params : List Byte) : Travels.Statement (.timingWrite params) := by
  intro h x hx
  obtain rfl := Option.some.inj hx
  exact travels_request .timingWrite params h

theorem Travels.storeSave (params : List Byte) : Travels.Statement (.storeSave params) := by
  intro h x hx
  obtain rfl := Option.some.inj hx
  exact travels_request .storeSave params h

theorem Travels.reset (params : List Byte) : Travels.Statement (.reset params) := by
  intro h x hx
  obtain rfl := Option.some.inj hx
  exact travels_request .reset params h

theorem Travels.receiverIdleGap (ch : ChannelId) : Travels.Statement (.receiverIdleGap ch) := by
  intro _ x hx
  cases hx

theorem Travels.lossOfPower : Travels.Statement .lossOfPower := by
  intro _ x hx
  cases hx

end Sys2Proof.Laws
end

