-- ==== Sys2Proof/Laws/Tells.lean ====
section
/-!
SUPPORT. What reports tell: several reports in order offer their records, post their notices and, where the ring crosses its threshold,
RING, and nothing else of the ring or of the notice unit changes.
-/

namespace Sys2Proof.Machine

/-! ### Postings in order -/

/-- Postings of different classes join a set in either order. -/
theorem putNotice_comm {m n : Notice} (h : m.rank ≠ n.rank) (l : List Notice) :
    putNotice m (putNotice n l) = putNotice n (putNotice m l) := by
  induction l with
  | nil =>
    simp only [putNotice]
    split <;> split <;> (try split) <;> first | rfl | omega
  | cons x xs ih =>
    simp only [putNotice]
    repeat' (split <;> (try simp only [putNotice]))
    all_goals first | omega | rfl | rw [ih]

/-- Postings of different classes reach the slots in either order. -/
theorem post_comm {m n : Notice} (h : m.rank ≠ n.rank) (s : State) : post m (post n s) = post n (post m s) := by
  have : (post m (post n s)).nu = (post n (post m s)).nu := by
    refine Bank.ext_get fun k => ?_
    simp only [post_nu, post_settings]
    by_cases hm : s.settings.reaches m k = true <;> by_cases hn : s.settings.reaches n k = true <;>
      simp [hm, hn, putNotice_comm h]
  show ({ s with nu := (post m (post n s)).nu } : State) = { s with nu := (post n (post m s)).nu }
  rw [this]

/-- Postings in order, as one state. -/
theorem foldl_post (ns : List Notice) (s : State) : ns.foldl (fun t n => post n t) s = { s with nu := s.posted ns } := by
  induction ns generalizing s with
  | nil => rfl
  | cons n ns ih =>
    show ns.foldl (fun t n => post n t) (post n s) = { s with nu := (post n s).posted ns }
    rw [ih]; rfl

@[simp] theorem posted_nil (s : State) : s.posted [] = s.nu := rfl

theorem posted_cons (s : State) (n : Notice) (ns : List Notice) : s.posted (n :: ns) = (post n s).posted ns := rfl

theorem posted_append (s : State) (ms ns : List Notice) : s.posted (ms ++ ns) = ({ s with nu := s.posted ms } : State).posted ns := by
  rw [← foldl_post]; simp [State.posted, List.foldl_append]

/-- What several postings leave rests on the station and dispatch tables and on the sets alone. -/
theorem posted_congr {s t : State} (hg : t.settings = s.settings) (hn : t.nu = s.nu) (ns : List Notice) :
    t.posted ns = s.posted ns := by
  induction ns generalizing s t with
  | nil => exact hn
  | cons n ns ih => exact ih (by simpa using hg) (Bank.ext_get fun k => by simp [hg, hn])

/-- A posting of a class that none of the later postings has may come last. -/
theorem posted_last {n : Notice} {ns : List Notice} (h : ∀ m ∈ ns, m.rank ≠ n.rank) (s : State) :
    s.posted (n :: ns) = s.posted (ns ++ [n]) := by
  induction ns generalizing s with
  | nil => rfl
  | cons m ns ih =>
    rw [List.cons_append, posted_cons, posted_cons, posted_cons, post_comm (h m (by simp)), ← posted_cons,
      ih fun x hx => h x (List.mem_cons_of_mem _ hx)]

/-! ### Offers in order -/

theorem RecordRing.length_offer (q : RecordRing) (c : Time) (b : RecordBody) :
    (q.offer c b).list.length = if q.list.length < ringCapacity then q.list.length + 1 else q.list.length :=
  keptAfterOffer_length _ _

theorem RecordRing.offers_append (q : RecordRing) (c : Time) (as bs : List RecordBody) :
    q.offers c (as ++ bs) = (q.offers c as).offers c bs := by simp [RecordRing.offers, List.foldl_append]

/-- No offer lowers the held count. -/
theorem RecordRing.length_le_offers (q : RecordRing) (c : Time) (bs : List RecordBody) :
    q.list.length ≤ (q.offers c bs).list.length := by
  induction bs generalizing q with
  | nil => exact Nat.le_refl _
  | cons b bs ih =>
    refine Nat.le_trans ?_ (ih (q.offer c b))
    rw [RecordRing.length_offer]; split <;> omega

/-! ### Reports in order -/

theorem rank_ne_ring {n : Notice} (h : n.cls ≠ .ring) (held : Nat) : n.rank ≠ (Notice.ring held).rank := by
  revert h; cases n <;> simp [Notice.rank, Notice.cls, NoticeClass.rank]

/-- No crossing without a change of the held count. -/
@[simp] theorem ringNotice_self (s : State) : s.ringNotice s.rr = [] := if_neg fun h => by omega

/-- One offer tells its record and RING where it crosses (R163, R168). -/
theorem offer_tells (b : RecordBody) (s : State) : s.tells (offer b s) [b] [] := by
  refine ⟨offer_rr s b, ?_⟩
  have hl := s.rr.length_offer s.su.clock b
  unfold State.ringNotice
  rw [offer_rr]
  dsimp only
  split
  · rename_i hc
    have he : (s.rr.offer s.su.clock b).list.length = s.settings.timing.threshold := by split at hl <;> omega
    have : offer b s = post (.ring (s.rr.offer s.su.clock b).list.length) (offerQuiet b s) := if_pos hc
    rw [this, he]
    rfl
  · rename_i hc
    have : offer b s = offerQuiet b s := if_neg hc
    rw [this]
    rfl

/-- A posting tells its notice. -/
theorem post_tells (n : Notice) (s : State) : s.tells (post n s) [] [n] := by
  refine ⟨rfl, ?_⟩
  rw [post_rr, ringNotice_self]
  rfl

/-- What is told in two parts is told in one. -/
theorem State.tells.trans {s m t : State} {as bs : List RecordBody} {ms ns : List Notice} (h : s.tells m as ms) (k : m.tells t bs ns)
    (hg : m.settings = s.settings) (hc : m.su.clock = s.su.clock) (hn : ∀ n ∈ ns, n.cls ≠ .ring) :
    s.tells t (as ++ bs) (ms ++ ns) := by
  obtain ⟨hr, hu⟩ := h
  obtain ⟨kr, ku⟩ := k
  have h1 : s.rr.list.length ≤ m.rr.list.length := by rw [hr]; exact RecordRing.length_le_offers ..
  have h2 : m.rr.list.length ≤ t.rr.list.length := by rw [kr]; exact RecordRing.length_le_offers ..
  refine ⟨by rw [kr, hr, hc, RecordRing.offers_append], ?_⟩
  have hrings : s.ringNotice t.rr = s.ringNotice m.rr ++ m.ringNotice t.rr := by
    simp only [State.ringNotice, hg]
    by_cases a : s.rr.list.length < s.settings.timing.threshold <;> by_cases b : s.settings.timing.threshold ≤ m.rr.list.length <;>
      by_cases c : s.settings.timing.threshold ≤ t.rr.list.length <;> simp [a, b, c] <;> omega
  have hswap : ∀ u : State, u.posted (s.ringNotice m.rr ++ ns) = u.posted (ns ++ s.ringNotice m.rr) := by
    intro u
    unfold State.ringNotice
    dsimp only
    split
    · exact posted_last (fun n h => rank_ne_ring (hn n h) _) u
    · simp
  have hm : m.posted (ns ++ m.ringNotice t.rr) = s.posted ((ms ++ s.ringNotice m.rr) ++ (ns ++ m.ringNotice t.rr)) := by
    rw [posted_append s]
    exact posted_congr (s := { s with nu := s.posted (ms ++ s.ringNotice m.rr) }) hg hu _
  rw [ku, hm, hrings, List.append_assoc, ← List.append_assoc (s.ringNotice m.rr), posted_append s ms,
    posted_append _ (s.ringNotice m.rr ++ ns), hswap, ← posted_append, ← posted_append]
  simp [List.append_assoc]

/-- A report tells its record and its notice (R163). -/
theorem report_tells (r : Report) (s : State) (h : ∀ n, r.notice = some n → n.cls ≠ .ring) :
    s.tells (report r s) [r.body] r.notice.toList := by
  have ho := offer_tells r.body s
  unfold report
  cases hr : r.notice with
  | none => exact ho
  | some n => exact ho.trans (post_tells n _) (offer_settings s _) (by rw [offer_su]) (by simpa using h n hr)

/-- Reports in order tell their records and their notices (R163, R168, R172). -/
theorem reportAll_tells (rs : List Report) (s : State) (h : ∀ r ∈ rs, ∀ n, r.notice = some n → n.cls ≠ .ring) :
    s.tells (reportAll rs s) (rs.map (·.body)) (rs.filterMap (·.notice)) := by
  induction rs generalizing s with
  | nil => exact ⟨rfl, by rw [show reportAll [] s = s from rfl, ringNotice_self]; rfl⟩
  | cons r rs ih =>
    have := (report_tells r s (h r (by simp))).trans (ih (report r s) fun x hx => h x (List.mem_cons_of_mem _ hx))
      (report_settings s r) (by rw [report_su]) (by
        intro n hn
        obtain ⟨x, hx, he⟩ := List.mem_filterMap.1 hn
        exact h x (List.mem_cons_of_mem _ hx) n he)
    cases hr : r.notice <;> simpa [hr, reportAll] using this

/-- The reports of two blocks tell theirs in one order or the other (R163). -/
theorem reportEither_tells (as bs : List Report) (s : State) (h : ∀ r ∈ as ++ bs, ∀ n, r.notice = some n → n.cls ≠ .ring) :
    s.tells (reportEither as bs s) ((as ++ bs).map (·.body)) ((as ++ bs).filterMap (·.notice)) ∨
    s.tells (reportEither as bs s) ((bs ++ as).map (·.body)) ((bs ++ as).filterMap (·.notice)) := by
  have drawn : ∀ rs : List Report, (∀ r ∈ rs, ∀ n, r.notice = some n → n.cls ≠ .ring) →
      s.tells (reportAll rs { s with draws := s.draws + 1 }) (rs.map (·.body)) (rs.filterMap (·.notice)) := by
    intro rs hrs
    obtain ⟨hr, hn⟩ := reportAll_tells rs { s with draws := s.draws + 1 } hrs
    exact ⟨hr, hn.trans (posted_congr (s := s) (t := { s with draws := s.draws + 1 }) rfl rfl _)⟩
  unfold reportEither
  split
  · exact .inl (reportAll_tells _ s h)
  · dsimp only
    split
    · exact .inl (drawn _ h)
    · exact .inr (drawn _ fun r hr => h r (by simpa [or_comm] using hr))

end Sys2Proof.Machine
end

