-- ==== Sys2Proof/Tests/Slice0.lean ====
section
/-!
SUPPORT. Tests: ill-formed commands that are refused, frames and check values written out from chapter 11, single steps on small
states, and for every statement with hypotheses a concrete state and operands that meet them.
-/

namespace Sys2Proof.Tests

-- One declaration at a time: the many small evaluations would otherwise each take a thread.
set_option Elab.async false

open Sys2Proof Sys2Proof.Machine

/-! ### Helpers -/

/-- The state a command leaves. -/
def after (c : Instr) (s : State) : State :=
  match exec c s with
  | .next t => t
  | _ => s

/-- The step answers a next state. -/
def answers (s : State) : Bool :=
  match step s with
  | .next _ => true
  | _ => false

theorem next_of_answers {s : State} (h : answers s = true) : ∃ t, step s = .next t := by
  unfold answers at h
  split at h
  · exact ⟨_, by assumption⟩
  · exact absurd h (by decide)

/-- The request would reach its owner. -/
def admitted (s : State) (k : SlotId) (r : Request) (params : List Byte) : Bool :=
  s.powered && (s.taken k).isSome && (s.settings.stations.get k).authorized &&
    permitted (s.settings.stations.get k).role r params && r.forms.contains params.length

theorem admits_of_admitted {s : State} {k : SlotId} {r : Request} {params : List Byte} (h : admitted s k r params = true) :
    ∃ w, s.admits k r params w := by
  simp only [admitted, Bool.and_eq_true] at h
  obtain ⟨⟨⟨⟨hp, ht⟩, ha⟩, hr⟩, hf⟩ := h
  obtain ⟨w, hw⟩ := Option.isSome_iff_exists.mp ht
  exact ⟨w, hp, hw, ha, hr, hf⟩

/-- The answer the part sends. -/
def answerTo (c : Instr) (s : State) : Option (Status × List Byte) := (after c s).la.response.map fun r => (r.status, r.payload)

/-- Reset, with slot 1 an operator, slot 2 the production slot of stage 0, slot 3 an observer, and slots 4 to 6 not authorized,
one with each treatment. -/
def venue : State :=
  let st := State.reset.settings.stations
  let st := ((st.set 1 ⟨.operator, true, .refuse⟩).set 2 ⟨.production 0, true, .refuse⟩).set 3 ⟨.observer, true, .refuse⟩
  let st := ((st.set 4 ⟨.operator, false, .drop⟩).set 5 ⟨.operator, false, .refuse⟩).set 6 ⟨.operator, false, .demote⟩
  { State.reset with settings := { State.reset.settings with stations := st } }

/-- The grant is slot `k`'s, no frame begun yet. -/
def turnOf (k : SlotId) (s : State) : State := { s with la := { s.la with link := .turn k false } }

/-- A LIVE channel of the head `id`. -/
def liveChannel (id : Nat) : Channel := ⟨.live, id, some 4, 10, 0, true, 7000, 7200, .empty, true⟩

/-- Stage 0 enabled with half of the budget. -/
def stageOn : StageSettings := ⟨true, 6000, 10200, 7000, 128⟩

/-- Point 0 with its primary on channel 0, stage 0 with its reference on channel 1, both LIVE; midday with a valid clock. -/
def stocked : State :=
  let g := venue.settings
  { venue with
    settings := { g with
      channelMap := (g.channelMap.set 0 ⟨.primary 0, 258⟩).set 1 ⟨.reference 0, 259⟩
      points := g.points.set 0 ⟨true, 0, 0, 7500⟩
      stages := g.stages.set 0 stageOn
      coupling := g.coupling.set 0 (Bank.fill 8 (some (-2000))) }
    sp := (venue.sp.set 0 (liveChannel 258)).set 1 (liveChannel 259)
    pm := ⟨venue.pm.points.set 0 ⟨.primary, 31623, 31623⟩, venue.pm.refs.set 0 ⟨true, 1⟩⟩
    su := { venue.su with clock := ⟨10, 43200, true⟩, limits := ⟨some 0, Bank.fill 4 factoryZone, none⟩ }
    ae := { venue.ae with activity := venue.ae.activity.set 0 (some ⟨false, 0⟩) }
    gu := { venue.gu with grants := venue.gu.grants.set 0 { Grant.afterReset stageOn with
      compliance := .tracking, applied := some 6000 } } }

/-- The same with a session of eleven hours open. -/
def busy : State :=
  { stocked with
    su := { stocked.su with session := some ⟨1, 1380, 396000, Bank.fill 4 none⟩ }
    ei := { stocked.ei with sessionFrames := 396000 }
    gu := { stocked.gu with grants := stocked.gu.grants.renew fun _ g => { g with session := true } } }

/-- `busy` one frame before a phase count. -/
def before (phase : Nat) : State := { busy with ei := { busy.ei with phase := phase - 1 } }

/-- `busy` at a second close, its work done and the snapshot waiting for the engine. -/
def waiting : State :=
  let s := boundaryFrames (before 10)
  let t := closeWork s
  { t with ae := { t.ae with handed := some (snapshotOf s t) } }

/-- `waiting` after a step on an empty queue: the pass is in flight. -/
def inFlight : State := idle waiting

/-- The pass in flight has a property. -/
def passHas (f : PassInputs → Bool) (s : State) : Bool :=
  match s.ae.pass with
  | none => false
  | some i => f i

/-- Stage 0's grant record replaced. -/
def withGrant (g : Grant) (s : State) : State := s.setGrant 0 g

/-! ### Well-formed commands: each check refuses an ill-formed term -/

theorem test_wellFormed_empty_candidate : (Instr.frameArrival 0 []).wellFormed = false := by decide
theorem test_wellFormed_length_59_is_no_excess : (Instr.frameLengthExcess 59).wellFormed = false := by decide
theorem test_wellFormed_length_60_is_excess : (Instr.frameLengthExcess 60).wellFormed = true := by decide
theorem test_wellFormed_incomplete_bad_frame : (Instr.badFrameEnd (cleanChars [0, 1, 2, 0, 0])).wellFormed = false := by decide
theorem test_wellFormed_known_code : (Instr.unknownRequest 0x5A []).wellFormed = false := by decide
theorem test_wellFormed_unknown_code : (Instr.unknownRequest 0x5B []).wellFormed = true := by decide
theorem test_wellFormed_long_unknown : (Instr.unknownRequest 0x5B (List.replicate 60 0)).wellFormed = false := by decide
theorem test_wellFormed_long_params : (Instr.statusRead (List.replicate 60 0)).wellFormed = false := by decide
theorem test_wellFormed_params_59 : (Instr.statusRead (List.replicate 59 0)).wellFormed = true := by decide

/-! ### Frames and fields, written out from chapter 11 -/

/-- No row of the table has a bit, so no word spells a command. -/
theorem test_no_table_word : decodeTableWord 16 0x5A00 = none ∧ State.reset.withFetchWord 16 0x5A00 = State.reset := ⟨rfl, rfl⟩
/-- R199: the check values over the nine characters 1 to 9. -/
theorem test_check_values : crc8 [0x31, 0x32, 0x33, 0x34, 0x35, 0x36, 0x37, 0x38, 0x39] = 0xF4 ∧
    crc16 [0x31, 0x32, 0x33, 0x34, 0x35, 0x36, 0x37, 0x38, 0x39] = 0x29B1 := by decide +kernel
/-- R200: identity 258, sequence 5, LA 70.00 dB, LC 72.00 dB, the HEAD_FAULT bit. -/
theorem test_sensor_frame : headFrame (cleanChars ([1, 2, 5, 0x1B, 0x58, 0x1C, 0x20, 4, 0] ++
    [crc8 [1, 2, 5, 0x1B, 0x58, 0x1C, 0x20, 4, 0]])) = some ⟨258, 5, 7000, 7200, false, false, true⟩ := by decide +kernel
/-- R201, R202: HOLD_FORCE of stage 3 sent by slot 0. -/
theorem test_hold_force_frame : commandOfFrame 0 (cleanChars ([0, 0x52, 1, 3] ++ crcBytes [0, 0x52, 1, 3])) = some (.holdForce [3]) := by
  decide +kernel
theorem test_wrong_slot_is_bad : frameFault 1 (cleanChars ([0, 0x52, 1, 3] ++ crcBytes [0, 0x52, 1, 3])) = some .slot := by
  decide +kernel
theorem test_time_bytes : readTime [0, 10, 0x80, 0, 0xA8, 0xC0] = some ⟨10, 43200, true⟩ := by decide +kernel
theorem test_offset_is_signed : readPoint [7, 1, 3, 0xFC, 0x18, 0x1D, 0x4C] = some (7, ⟨true, 3, -1000, 7500⟩) := by decide +kernel
/-- R28: an enabled byte of 2 is outside its range. -/
theorem test_enabled_range : readPoint [7, 2, 3, 0xFC, 0x18, 0x1D, 0x4C] = none := by decide +kernel
theorem test_offset_range : readPoint [7, 1, 3, 0xFC, 0x17, 0x1D, 0x4C] = none := by decide +kernel
theorem test_unset_coupling : readCoupling [1, 2, 0x7F, 0xFF] = some (1, 2, none) ∧ readCoupling [1, 2, 0, 1] = none := by
  decide +kernel
theorem test_role_stage : readStation [5, 3, 0xFF, 1, 0] = none ∧ readStation [5, 2, 0xFF, 1, 0] = some (5, ⟨.operator, true, .drop⟩) ∧
    readStation [5, 2, 4, 1, 0] = none := by decide +kernel
theorem test_dispatch_priority : readDispatch [10, 0x0F] = some (9, ⟨true, true, true, true⟩) ∧ readDispatch [0, 1] = none ∧
    readDispatch [1, 0x10] = none := by decide +kernel
theorem test_levels_index : readLevelsPart [1, 4] = some (.points 4) ∧ readLevelsPart [1, 8] = none ∧ readLevelsPart [2, 4] = none := by
  decide +kernel

/-! ### Levels and powers (R5, R6) -/

/-- The worked conversions of 01_level_and_energy_arithmetic.md, section 1.3.1. -/
theorem test_worked_powers : [-1000, 2500, 3176, 3177, 4000, 4500, 5700, 6000, 6200, 6500, 6540, 7000, 9600, 13000, 14000].map p =
    [1, 1, 1, 2, 10, 32, 501, 1000, 1585, 3162, 3467, 10000, 3981072, 10 ^ 10, 10 ^ 10] := by decide +kernel
theorem test_worked_levels : [0, 1, 2, 968, 1104, 1841, 3111, 3162, 4327, 5500, 20000, 10 ^ 10, 610000000000].map lv =
    [3000, 3000, 3301, 5986, 6043, 6265, 6493, 6500, 6636, 6740, 7301, 13000, 13000] := by decide +kernel
/-- The worked session lengths of 04_limit_schedule_clock_and_curfew.md, section 4.7.1. -/
theorem test_worked_sessions : [(106, 76470), (110, 85200), (1, 82799)].map (fun x => sessionLength x.1 x.2) = [63300, 66000, 10] ∧
    [endDistance 1274 1380, endDistance 1420 90, endDistance 1420 120, endDistance 1420 150, endDistance 1380 1380] =
      [106, 110, 140, 170, 0] := by decide +kernel
/-- The worked slew of 07_stage_grants_and_enforcement.md, section 7.2.1. -/
theorem test_worked_slew : [moveCeiling .allocated 9870 9843 100 25, moveCeiling .allocated 9843 9600 100 25,
    moveCeiling .allocated 9743 9835 100 25, moveCeiling .closed 9793 6000 100 25, moveCeiling .survey 6000 9100 100 25] =
      [9843, 9743, 9768, 6000, 9100] := by decide +kernel

/-! ### Single steps -/

/-- R16, R23: a good frame of a LIVE channel joins its slot; two frames were missed (4 to 7). -/
def liveFrame : List RxChar := cleanChars ([1, 2, 7, 0x0F, 0xA0, 0x0F, 0xA0, 1, 0] ++ [crc8 [1, 2, 7, 0x0F, 0xA0, 0x0F, 0xA0, 1, 0]])
theorem test_frame_joins_slot : ((after (.frameArrival 0 liveFrame) stocked).sp.get 0).slot = ⟨10, 10, 1, 1, 2⟩ := by decide +kernel
/-- R22: silence makes a LIVE channel STALE, and its point has no other source. -/
theorem test_silence : let t := after (.silenceTimerExpiry 0) stocked
    (t.sp.get 0).state = .stale ∧ (t.pm.points.get 0).source = .blind ∧
    (t.rr.list.drop 1).map (·.body) = [.sensorChannel 0 .stale, .sensorPoint 0 .blind] := by decide +kernel
/-- R30, R39: a BLIND point hands over its substitute level's power, p(75.00 dB) = 31623. -/
theorem test_blind_point_fills : ((after .frameBoundary (after (.silenceTimerExpiry 0) busy)).ei.points.get 0).eS = 31623 := by
  decide +kernel
theorem test_frame_boundary_counts : let t := after .frameBoundary busy
    t.ei.phase = 1 ∧ t.ei.sessionFrames = 395999 := by decide +kernel
/-- R49, R85: the session ends with its last frame. -/
theorem test_session_end : let t := after .sessionEnd { busy with ei := { busy.ei with sessionFrames := 1 } }
    t.su.session = none ∧ (t.rr.list.drop 1).map (·.body) = [.sessionClosed 1 396000 .ended] := by decide +kernel
/-- What the integrator holds after a boundary taken as a second or a minute close, whenever the engine takes the snapshot. -/
theorem after_close (s : State) (hp : s.powered = true) :
    (isSecondClose (nextPhase s.ei.phase) = true → (after .secondClose s).ei = (closeWork (boundaryFrames s)).ei) ∧
    (isMinuteClose (nextPhase s.ei.phase) = true → (after .minuteClose s).ei = (closeWork (boundaryFrames s)).ei) := by
  constructor <;> intro h <;>
    simp [after, exec, execSecondClose, execMinuteClose, whenPowered, hp, secondClose, minuteClose, boundaryIf, h, frameBoundary]
/-- R37, R58: a second close, whenever the engine takes its snapshot. -/
theorem test_second_close : (after .secondClose (before 10)).ei.phase = 10 := by
  rw [(after_close _ rfl).1 (by decide +kernel)]
  decide +kernel
/-- R110: with no command waiting the engine takes the snapshot that waits; R112 counts the session open. -/
theorem test_idle_starts_pass : waiting.ae.pass = none ∧ inFlight.ae.handed = none ∧ passHas (·.isOpen) inFlight = true := by decide +kernel
/-- R112: a SESSION_CLOSE after the second close is seen by the pass, although the snapshot has the session open. -/
theorem test_close_before_pass : let s := idle (after (.sessionClose []) (turnOf 1 waiting))
    passHas (fun i => i.snap.sessionOpen && !i.isOpen) s = true := by decide +kernel
theorem test_second_close_not_due : after .secondClose busy = busy := rfl
/-- R46: the bin of the minute that closes becomes the newest of the ring. -/
theorem test_minute_close : (fun x : PointExposure => (x.ring.get 59, x.bin)) ((after .minuteClose (before 600)).ei.points.get 0) =
    (31623, 0) := by
  rw [(after_close _ rfl).2 (by decide +kernel)]
  decide +kernel
/-- R59: an interval close offers the summary of each enabled point. -/
theorem test_interval_close : (closeWork (boundaryFrames (before 3000))).rr.list.length = 2 := by decide +kernel
/-- R110, R136: the pass of a second close of a stage with headroom raises its ceiling by the up rate. -/
theorem test_pass_result : ((after .passResult inFlight).gu.grants.get 0).c = 6025 := by decide +kernel
/-- A snapshot that still waits at PASS_RESULT is taken first. -/
theorem test_pass_result_waiting : ((after .passResult waiting).gu.grants.get 0).c = 6025 := by decide +kernel
theorem test_compliance_timer : ((after (.complianceTimerExpiry 0)
    (withGrant { Grant.afterReset stageOn with compliance := .pending, complianceTimer := some 5 } stocked)).gu.grants.get 0).cause =
    some .ackTimeout := by decide +kernel
theorem test_hold_minimum : ((after (.holdMinimumExpiry 0)
    (withGrant { Grant.afterReset stageOn with
      compliance := .releasing, holdTimer := some 10, applied := some 6000 } stocked)).gu.grants.get 0).compliance = .tracking := by
  decide +kernel
/-- R63: 23:59:59 of day 65535 is followed by 00:00:00 of day 0. -/
theorem test_clock_wraps : (after .clockAdvance { stocked with su := { stocked.su with clock := ⟨65535, 86399, true⟩ } }).su.clock =
    ⟨0, 0, true⟩ := by decide +kernel
theorem test_clock_minute_boundary_not_due : after .clockMinuteBoundary stocked = stocked := rfl
/-- R194, R195: a completed save leaves an image that a load gives back. -/
theorem test_save_completion :
    (after .saveCompletion { stocked with st := { stocked.st with saving := some stocked.settings } }).st.load = stocked.settings :=
  Store.load_written stocked.settings
/-- R196: an image that fails its check leaves the factory defaults and a second GAP record. -/
theorem test_power_up_bad_image : let s := { stocked with st := stocked.st.torn 0 }
    (after .powerUp s).settings = Settings.factory ∧ storeGap s.st 0 = [.gap .storeInvalid 0] :=
  ⟨(powerUp_settings _).trans (Store.load_torn stocked.st 0), by simp [storeGap]⟩
/-- R195: the interrupted save leaves an image that fails its check. -/
theorem test_loss_of_power : let t := after .lossOfPower { stocked with st := { stocked.st with saving := some stocked.settings } }
    t.powered = false ∧ t.st.matches = false := ⟨rfl, Store.torn_matches _ _⟩
/-- R197: a command reset keeps the clock and loads the image. -/
theorem test_command_reset : let t := after .commandReset { stocked with la := { stocked.la with link := .responding 0, resetDue := true } }
    t.su.clock = stocked.su.clock ∧ t.settings = Settings.factory :=
  ⟨commandReset_clock _, (commandReset_settings _).trans (Store.load_written Settings.factory)⟩
/-- R182: after a reset the level-2 pointer names slot 7, so slot 1 comes first. -/
theorem test_request_line : (after (.requestLineAsserted 1) stocked).la.link = .turn 1 false := by decide +kernel
theorem test_request_line_released : let s := stocked.setArb 2 ⟨true, false, 1⟩
    (after (.requestLineReleased 2) s).la.slots.get 2 = ⟨false, false, 1⟩ := by decide +kernel
theorem test_parked_window : after .parkedWindowExpiry stocked = stocked := rfl
theorem test_parked_frame : (after .parkedFrameStart stocked).la.link = .turn 0 true := by decide +kernel
/-- R180: the third miss in a row makes slot 2 BROKEN. -/
theorem test_third_miss : let t := after .grantWindowExpiry (turnOf 2 (stocked.setArb 2 ⟨false, false, 2⟩))
    (t.la.slots.get 2).broken = true ∧ t.la.link = .free (some 0) := by decide +kernel
theorem test_long_frame : (after (.frameLengthExcess 60) (turnOf 2 stocked)).la.link = .clearing := by decide +kernel
theorem test_frame_time : ((after .frameTimeLimit (turnOf 2 stocked)).la.slots.get 2).missRun = 1 := by decide +kernel
theorem test_bad_frame : let t := after (.badFrameEnd (cleanChars [2, 1, 0, 0, 0])) (turnOf 2 stocked)
    (t.la.slots.get 2).missRun = 1 ∧ t.la.link = .free (some 0) := by decide +kernel
theorem test_idle_gap : (after .linkIdleGap { stocked with la := { stocked.la with link := .clearing } }).la.link = .free (some 0) := by
  decide +kernel
theorem test_response_end : (after .responseEnd { stocked with la := { stocked.la with link := .responding 3 } }).la.link =
    .free (some 0) := by decide +kernel
theorem test_receiver_idle_gap : ((after (.receiverIdleGap 4) stocked).sp.get 4).receiving = true := by decide +kernel
theorem test_unknown_request : answerTo (.unknownRequest 0x5B []) (turnOf 3 stocked) = some (.unknown, []) := by decide +kernel
/-- R191: with no notice pending a STATUS_READ is answered and takes none. -/
theorem test_status_read : (after (.statusRead []) (turnOf 3 stocked)).nu = stocked.nu ∧
    (answerTo (.statusRead []) (turnOf 3 stocked)).map (·.1) = some .ok := by decide +kernel
theorem test_levels_read : (answerTo (.levelsRead [2, 0]) (turnOf 3 stocked)).map (·.2.length) = some 128 := by decide +kernel
theorem test_notice_enable : ((after (.noticeEnable [0]) (turnOf 2 stocked)).nu.get 2).enable = false := by decide +kernel
theorem test_grant_query_other_stage : answerTo (.grantQuery [1]) (turnOf 2 stocked) = some (.role, []) := by decide +kernel
theorem test_grant_query_own_stage : (answerTo (.grantQuery [0]) (turnOf 2 stocked)).map (·.1) = some .ok := by decide +kernel
/-- R142: 60.50 dB is within a ceiling of 60.00 dB, 60.51 dB is not. -/
theorem test_ack_within : answerTo (.grantAck [0, 0x17, 0xA2, 0]) (turnOf 2 stocked) = some (.ok, [1, 0x17, 0x70]) := by decide +kernel
theorem test_ack_above : answerTo (.grantAck [0, 0x17, 0xA3, 0]) (turnOf 2 stocked) = some (.ok, [2, 0x17, 0x70]) := by decide +kernel
/-- R83: from 12:00 to 23:00 are 396000 frames. -/
theorem test_session_open : answerTo (.sessionOpen []) (turnOf 1 stocked) = some (.ok, [0, 6, 0x0A, 0xE0, 5, 0x64]) := by decide +kernel
theorem test_session_open_late : answerTo (.sessionOpen [5, 0x65]) (turnOf 1 stocked) = some (.state .endTime, []) := by decide +kernel
theorem test_session_close : (after (.sessionClose []) (turnOf 1 busy)).su.session = none := by decide +kernel
theorem test_point_write : ((after (.pointWrite [1, 1, 2, 0, 0, 0x1D, 0x4C]) (turnOf 1 stocked)).pm.points.get 1).source = .blind := by
  decide +kernel
theorem test_stage_write : ((after (.stageWrite [1, 1, 0x17, 0x70, 0x27, 0xD8, 0x1B, 0x58]) (turnOf 1 stocked)).gu.grants.get 1).cause =
    some .powerUp := by decide +kernel
theorem test_stage_write_session : answerTo (.stageWrite [1, 1, 0x17, 0x70, 0x27, 0xD8, 0x1B, 0x58]) (turnOf 1 busy) =
    some (.state .sessionOpen, []) := by decide +kernel
/-- R26: the primary of point 0 moves from channel 0 to channel 2. -/
theorem test_channel_bind : let t := after (.channelBind [2, 1, 0, 0, 0]) (turnOf 1 stocked)
    (t.settings.channelMap.get 0).binding = .unused ∧ (t.sp.get 2).state = .settling ∧ (t.pm.points.get 0).source = .blind := by
  decide +kernel
theorem test_share_write_excess : answerTo (.shareWrite [1, 1, 0, 0, 0, 0, 0, 0]) (turnOf 1 stocked) = some (.param, []) := by
  decide +kernel
theorem test_share_write : ((after (.shareWrite [1, 0, 1, 0, 0, 0, 0, 0]) (turnOf 1 stocked)).settings.stages.get 1).share = 256 := by
  decide +kernel
theorem test_coupling_write : ((after (.couplingWrite [1, 2, 0xFF, 0x38]) (turnOf 1 stocked)).settings.coupling.get 1).get 2 =
    some (-200) := by decide +kernel
theorem test_coupling_read : answerTo (.couplingRead [1]) (turnOf 3 stocked) =
    some (.ok, (List.replicate 8 [0x7F, 0xFF]).flatten) := by decide +kernel
theorem test_survey_start : (after (.surveyStart [0, 10, 0x1B, 0x58]) (turnOf 1 stocked)).cs.state = .quiet := by decide +kernel
theorem test_survey_start_authority : answerTo (.surveyStart [0, 10, 0x1B, 0x58]) (turnOf 0 stocked) = some (.role, []) := by decide +kernel
/-- A survey of stage 0 in a state of its own. -/
def surveying (v : SurveyState) (s : State) : State := { s with cs := { s.cs with state := v, d := 10, level := 7000 } }
/-- A finished survey: point 0 RESOLVED with −30.00 dB, the rest UNRESOLVED. -/
def surveyed : State :=
  let s := surveying .done stocked
  { s with cs := { s.cs with
    results := some ⟨7000, (Bank.fill 8 ⟨none, none, none⟩).set 0 ⟨some (-3000), some 3500, some 4000⟩⟩ } }
theorem test_survey_abort : (after (.surveyAbort []) (turnOf 1 (surveying .signal stocked))).cs.reason = some .operator := by decide +kernel
theorem test_survey_accept : let t := after (.surveyAccept []) (turnOf 1 surveyed)
    (t.settings.coupling.get 0).get 0 = some (-3000) ∧ (t.settings.coupling.get 0).get 1 = some (-2000) ∧ t.cs.state = .idle := by
  decide +kernel
theorem test_survey_discard : (after (.surveyDiscard []) (turnOf 1 surveyed)).cs.results = none := by decide +kernel
theorem test_survey_read : (answerTo (.surveyRead []) (turnOf 1 surveyed)).map (·.1) = some .ok := by decide +kernel
/-- R80, R203: the header takes 13 bytes, one period record 28. -/
theorem test_sched_read : (answerTo (.schedRead [0, 0]) (turnOf 3 stocked)).map (·.2.length) = some 41 := by decide +kernel
/-- A period record that starts at 22:00, STOP, ramp 30, every limit absent. -/
def stopAt22 : List Byte := [5, 0x28, 1, 30] ++ List.replicate 24 0
theorem test_sched_write : (after (.schedWrite (0 :: stopAt22)) (turnOf 0 stocked)).su.pendingList =
    [⟨1320, .stop, 30, Bank.fill 4 ⟨none, none⟩⟩] := by decide +kernel
theorem test_sched_write_index : answerTo (.schedWrite (1 :: stopAt22)) (turnOf 0 stocked) = some (.param, []) := by decide +kernel
theorem test_sched_clear : (after (.schedClear []) (turnOf 0 stocked)).su.pendingList = [] := by decide +kernel
theorem test_sched_commit : (after (.schedCommit []) (turnOf 0 stocked)).su.commit = true := by decide +kernel
theorem test_session_limit_write : (after (.sessionLimitWrite [1, 0x1B, 0x58, 0, 0, 0, 0, 0, 0, 0, 0, 0, 5, 0x28])
    (turnOf 0 stocked)).su.pendingAllowance = ⟨(Bank.fill 4 none).set 0 (some 7000), 1320⟩ := by decide +kernel
theorem test_fallback_write : ((after (.fallbackWrite ([1, 0x1B, 0x58, 0, 0, 0] ++ List.replicate 18 0)) (turnOf 0 stocked)).settings.fallback.get
    0) = ⟨some 7000, none⟩ := by decide +kernel
theorem test_fallback_write_range : answerTo (.fallbackWrite ([1, 0x0B, 0xB7, 0, 0, 0] ++ List.replicate 18 0)) (turnOf 0 stocked) =
    some (.param, []) := by decide +kernel
theorem test_time_set : (after (.timeSet [0, 11, 0x80, 0, 0, 60]) (turnOf 0 stocked)).su.clock = ⟨11, 60, true⟩ := by decide +kernel
theorem test_role_write : (after (.roleWrite [7, 4, 0xFF, 1, 0]) (turnOf 0 stocked)).settings.stations.get 7 =
    ⟨.observer, true, .drop⟩ := by decide +kernel
theorem test_role_write_taken_stage : answerTo (.roleWrite [7, 3, 0, 1, 0]) (turnOf 0 stocked) = some (.param, []) := by decide +kernel
theorem test_dispatch_write : (after (.dispatchWrite [1, 8]) (turnOf 0 stocked)).settings.dispatch.get 0 =
    ⟨false, false, false, true⟩ := by decide +kernel
/-- R172: HOLD is posted to the production slot of the stage; slot 4, not authorized, gets nothing. -/
theorem test_hold_force : let t := after (.holdForce [0]) (turnOf 0 stocked)
    (t.gu.grants.get 0).forced = true ∧ (t.nu.get 2).pending = [.hold 0 .asserted .forced] ∧ (t.nu.get 4).pending = [] := by
  decide +kernel
theorem test_hold_unforce : ((after (.holdUnforce [0]) (turnOf 0 stocked)).gu.grants.get 0).forced = false := by decide +kernel
theorem test_record_read : (answerTo (.recordRead [0, 0, 8]) (turnOf 0 stocked)).map (·.1) = some .ok := by decide +kernel
theorem test_record_release : (after (.recordRelease [0, 1]) (turnOf 0 stocked)).rr.list = [] := by decide +kernel
theorem test_record_release_excess : answerTo (.recordRelease [0, 2]) (turnOf 0 stocked) = some (.param, []) := by decide +kernel
theorem test_arb_write : (after (.arbWrite [0, 0, 3]) (turnOf 0 stocked)).settings.arbiter = ⟨false, .last, 3⟩ := by decide +kernel
theorem test_arb_clear : ((after (.arbClear [2]) (turnOf 0 (stocked.setArb 2 ⟨false, true, 3⟩))).la.slots.get 2) = ⟨false, false, 0⟩ := by
  decide +kernel
/-- R168: the threshold falls to the one record held, which posts RING to the authority. -/
theorem test_timing_write : let t := after (.timingWrite [0x0B, 0xB8, 2, 0x58, 0, 100, 25, 5, 10, 1, 0x2C, 5, 0, 1]) (turnOf 0 stocked)
    (t.nu.get 0).pending = [.ring 1] := by decide +kernel
theorem test_store_save : (after (.storeSave []) (turnOf 0 stocked)).st.saving = some stocked.settings := by decide +kernel
theorem test_reset_waits_for_response : let t := after (.reset []) (turnOf 0 stocked)
    t.la.resetDue = true ∧ t.settings = stocked.settings := by decide +kernel

/-! ### Witnesses: for each statement with hypotheses, a state and operands that meet them -/

/-- A session under way, with a boundary waiting. -/
def queued : State := { busy with pending := [.frameBoundary] }

/-- The empty queue, with a snapshot waiting, with a pass in flight and with neither. -/
theorem test_witness_StepRunsFrontCommand : waiting.pending = [] ∧ waiting.powered = true ∧ waiting.ae.pass = none ∧
    waiting.ae.handed.isSome = true ∧ inFlight.pending = [] ∧ inFlight.ae.pass.isSome = true ∧ stocked.pending = [] ∧
    stocked.ae.handed = none := by decide +kernel
theorem test_witness_PowerIsRoundedHalfUp :
    ((0 : Nat) : Int) = max 3000 (min 13000 2999) - 3000 ∧ ((0 : Nat) : Int) = max 3000 (min 13000 3000) - 3000 ∧
    ((10000 : Nat) : Int) = max 3000 (min 13000 13000) - 3000 ∧ ((10000 : Nat) : Int) = max 3000 (min 13000 13001) - 3000 := by decide
theorem test_witness_LevelIsRoundedHalfUp : lv 0 = 3000 ∧ 3000 ≤ lv 1 ∧ lv (10 ^ 10) = 13000 ∧ lv (10 ^ 10 - 1) ≤ 13000 := by decide +kernel
theorem test_witness_LevelReturnsThroughPower : lv (p 5700) = 5700 ∧ lv (p 13000) = 13000 ∧ lv (p 5200) ≤ 5201 ∧ lv (p 5699) ≤ 5700 ∧
    lv (p 3000) ≤ 3176 ∧ lv (p 5199) ≤ 5375 := by decide +kernel
theorem test_witness_RequestFrameReadsBack :
    (Instr.statusRead (List.replicate 59 0xFF)).wellFormed = true ∧ (Instr.unknownRequest 0 []).wellFormed = true ∧
    ((commandFrame 7 (.statusRead (List.replicate 59 0xFF))).map (·.length)) = some 64 ∧
    ((commandFrame 0 (.unknownRequest 0 [])).map (·.length)) = some 5 := by decide +kernel
/-- The two ends of each range of ParametersAreReadAsLaidOut, and the first value beyond. -/
theorem test_witness_ParametersAreReadAsLaidOut :
    readAck (u8 3 ++ u16 65535 ++ flag true) = some (3, 65535, true) ∧
    readTime (timeBytes ⟨65535, 86399, true⟩) = some ⟨65535, 86399, true⟩ ∧ readTime (timeBytes ⟨0, 86400, true⟩) = none ∧
    readCoupling (u8 3 ++ u8 7 ++ couplingBytes (some (-9000))) = some (3, 7, some (-9000)) ∧
    readCoupling (u8 0 ++ u8 0 ++ couplingBytes (some 0)) = some (0, 0, some 0) ∧
    readPeriod (u8 255 ++ Period.bytes ⟨65535, .stop, 255, Bank.fill 4 ⟨some 65535, some ⟨65535, 255⟩⟩⟩) =
      some (255, ⟨65535, .stop, 255, Bank.fill 4 ⟨some 65535, some ⟨65535, 255⟩⟩⟩) ∧
    readAllowance (Allowance.bytes ⟨Bank.fill 4 (some 65535), 65535⟩) = some ⟨Bank.fill 4 (some 65535), 65535⟩ := by decide +kernel
theorem test_witness_ParametersAreReadAsLaidOut_ends : readIndex 4 [3] = some 3 ∧ readIndex 4 [4] = none ∧
    readEndMinute (u16 1439) = some (some 1439) ∧ readEndMinute (u16 1440) = none ∧
    readSurvey (u8 3 ++ u8 10 ++ u16 65535) = some (3, 10, 65535) ∧ readSurvey (u8 3 ++ u8 121 ++ u16 0) = none ∧
    readSchedList [3, 255] = some (.allowance, 255) ∧ readSchedList [4, 0] = none ∧ readCount (u16 65535) = some 65535 ∧
    readRecordSpan [0, 0, 8] = some (0, 8) ∧ readRecordSpan [0, 0, 9] = none := by decide +kernel
theorem test_witness_ParametersAreReadAsLaidOut_tables :
    readStation [7, 3, 3, 1, 2] = some (7, ⟨.production 3, true, .demote⟩) ∧ readStation [7, 5, 0xFF, 1, 2] = none ∧
    readBind [15, 3, 4, 255, 255] = none ∧ readFallback (zonesBytes (Bank.fill 4 ⟨some 13001, none⟩)) = none ∧
    readFallback (zonesBytes (Bank.fill 4 ⟨some 13000, some ⟨3000, 60⟩⟩)) = some (Bank.fill 4 ⟨some 13000, some ⟨3000, 60⟩⟩) ∧
    readPeriod ([0, 0, 0, 2, 0] ++ List.replicate 24 0) = none ∧ readAllowance (2 :: List.replicate 13 0) = none := by decide +kernel
/-- R203: zone entries by hand, LF 7000 and LW 6000 over 15: the bytes of an absent limit, and bits 2 to 7, are not read. -/
def zoneCells : List Byte := [0xFD, 0x1B, 0x58, 0xFF, 0xFF, 0xFF] ++ [0xFE, 0xFF, 0xFF, 0x17, 0x70, 15] ++ [0xFC, 1, 2, 3, 4, 5] ++
  [3, 0x1B, 0x58, 0x17, 0x70, 15]
/-- The limits they spell. -/
def zonesSpelled : Bank 4 ZoneLimits := ⟨#v[⟨some 7000, none⟩, ⟨none, some ⟨6000, 15⟩⟩, ⟨none, none⟩, ⟨some 7000, some ⟨6000, 15⟩⟩]⟩
theorem test_witness_ParametersAreReadAsLaidOut_spelled : readZones zoneCells = some zonesSpelled ∧
    readPeriod ([5, 0x05, 0x28, 1, 30] ++ zoneCells) = some (5, ⟨1320, .stop, 30, zonesSpelled⟩) ∧
    readZones (0 :: zoneCells) = none ∧ readPeriod ([0x05, 0x28, 1, 30] ++ zoneCells) = none ∧
    readAllowance [0, 9, 9, 1, 0x1B, 0x58, 0, 0, 0, 1, 0, 0, 0x05, 0x28] = some ⟨⟨#v[none, some 7000, none, some 0]⟩, 1320⟩ ∧
    readAllowance [0, 9, 9, 1, 0x1B, 0x58, 0, 0, 0, 2, 0, 0, 0x05, 0x28] = none := by decide +kernel

/-- A ring of `n` records of one kind. -/
def ringOf (n : Nat) (b : RecordBody) : RecordRing := ⟨List.replicate n ⟨0, ⟨0, 0, false⟩, b⟩, 0, n⟩
/-- A summary of a point. -/
def aSummary : RecordBody := .intervalSummary 0 3000 3000 3000 0 0 0 .primary
/-- A full ring with one summary, the newest record but one. -/
def mixedRing : RecordRing :=
  ⟨List.replicate 1022 ⟨0, ⟨0, 0, false⟩, .gap .powerUp 0⟩ ++ ⟨0, ⟨0, 0, false⟩, aSummary⟩ :: [⟨0, ⟨0, 0, false⟩, .gap .powerUp 0⟩], 0, 5⟩
theorem test_witness_RingHandlesOffer_full : (ringOf 1023 aSummary).list.length < 1024 ∧ (ringOf 1024 aSummary).list.length = 1024 ∧
    aSummary.isSummary = true ∧ (RecordBody.gap .powerUp 0).isSummary = false := by decide +kernel
theorem test_witness_RingHandlesOffer_no_summary : (ringOf 1024 (.gap .powerUp 0)).list.length = 1024 ∧
    ∀ r ∈ (ringOf 1024 (.gap .powerUp 0)).list, r.body.isSummary = false := by decide +kernel
theorem test_witness_RingHandlesOffer_displaces : mixedRing.list.length = 1024 ∧ ∃ older x newer,
    mixedRing.list = older ++ x :: newer ∧ x.body.isSummary = true ∧ ∀ r ∈ older, r.body.isSummary = false :=
  ⟨by decide +kernel, _, _, _, rfl, by decide +kernel, by decide +kernel⟩
theorem test_witness_RingHandlesOffer_threshold :
    let s := { stocked with rr := ringOf 767 aSummary }
    s.rr.list.length + 1 = s.settings.timing.threshold ∧ stocked.rr.list.length + 1 ≠ stocked.settings.timing.threshold := by
  decide +kernel
/-- Slot 2 is entitled to HOLD of stage 0, not of stage 1; slot 4 is not authorized. -/
theorem test_witness_PostingReachesEntitledSlots : busy.pendingSetsLawful ∧
    (busy.settings.stations.get 2).role = .production 0 ∧ (busy.settings.dispatch.get (Notice.hold 0 .asserted .forced).cls.rank).holds
      (.production 0) = true ∧ (Notice.hold 0 .asserted .forced).stageNamed = some 0 ∧
    (busy.settings.stations.get 4).authorized = false := by
  unfold State.pendingSetsLawful
  decide +kernel

theorem test_witness_every_step : ∃ t, step queued = .next t := next_of_answers (by decide +kernel)
theorem test_witness_RingStaysBounded : queued.ringBounded := by unfold State.ringBounded; decide +kernel
theorem test_witness_CeilingsStayWithin : queued.settingsAll Settings.topsAboveFloors ∧ queued.ceilingsWithin := by
  unfold State.settingsAll Settings.topsAboveFloors State.ceilingsWithin
  decide +kernel
theorem test_witness_PendingSetsStayLawful : queued.pendingSetsLawful := by unfold State.pendingSetsLawful; decide +kernel
/-- `queued` with SENSOR and CLOCK pending at the authority's slot, whose enable is clear. -/
def notified : State := { queued with nu := queued.nu.set 0 ⟨[.sensorPoint 3, .clock true], false⟩ }
/-- R172, R175: a hold's notice joins the set of its slots, the others stand, and so does the enable. -/
theorem test_posting_keeps_set_and_enable : let s := withGrant { notified.gu.grants.get 0 with compliance := .pending, complianceTimer := some 1 } notified
    (after (.complianceTimerExpiry 0) s).nu.get 0 = ⟨[.hold 0 .asserted .ackTimeout, .sensorPoint 3, .clock true], false⟩ ∧
    (after (.complianceTimerExpiry 0) s).nu.get 4 = s.nu.get 4 := by decide +kernel
/-- R174, R176, R177: each way a set or an enable of PendingSetsStayLawful may change. -/
theorem test_witness_PendingSetsStayLawful_leaves :
    (after (.statusRead []) (turnOf 0 notified)).nu.get 0 = ⟨[.clock true], false⟩ ∧
    ((after (.noticeEnable [1]) (turnOf 0 notified)).nu.get 0).enable = true ∧
    (frameTurn (turnOf 0 notified)).map (·.1) = some 0 ∧
    State.restartsNotices notified .powerUp ∧ (after .lossOfPower notified).nu.get 0 = ⟨[], true⟩ :=
  ⟨by decide +kernel, by decide +kernel, by decide +kernel, .inl rfl, rfl⟩
theorem test_witness_NoSessionStaysInSurvey : queued.noSessionInSurvey ∧ (surveying .quiet stocked).noSessionInSurvey := by
  unfold State.noSessionInSurvey
  decide +kernel
theorem test_witness_SettingsStayLawful :
    queued.settingsAll (fun g => g.bindingsDistinct ∧ g.sharesBounded ∧ g.stationsLawful) := by
  unfold State.settingsAll Settings.bindingsDistinct Settings.sharesBounded Settings.stationsLawful
  have h : ∀ g ∈ queued.settingsHeld, (∀ t j k, (g.stations.get j).role = .production t →
      (g.stations.get k).role = .production t → j = k) := by decide +kernel
  have h' : ∀ g ∈ queued.settingsHeld, (∀ c d, (g.channelMap.get c).binding = (g.channelMap.get d).binding →
      (g.channelMap.get c).binding ≠ .unused → c = d) ∧ enabledShares g.stages (g.stages.renew fun _ q => q.share) ≤ 256 ∧
      (g.stations.get 0).role = .authority ∧ (g.stations.get 0).authorized = true ∧
      ∀ k, (g.stations.get k).role = .unassigned → (g.stations.get k).authorized = false := by decide +kernel
  exact fun g hg => ⟨(h' g hg).1, (h' g hg).2.1, (h' g hg).2.2.1, (h' g hg).2.2.2.1, fun j k t => h g hg t j k, (h' g hg).2.2.2.2⟩
theorem test_witness_ScheduleStaysLawful : queued.settingsAll Settings.scheduleLawful ∧ queued.su.pendingList.length ≤ 16 := by
  unfold State.settingsAll Settings.scheduleLawful
  decide +kernel
theorem test_witness_ComplianceStaysLawful : queued.complianceLawful := by
  have h : ∀ t, (match (queued.gu.grants.get t).compliance with
    | .disabled => !(queued.settings.stages.get t).enabled
    | .tracking => (queued.settings.stages.get t).enabled && (queued.gu.grants.get t).within (queued.settings.stages.get t).top
    | _ => false) && (queued.gu.grants.get t).complianceTimer.isNone && (queued.gu.grants.get t).holdTimer.isNone = true := by
    decide +kernel
  intro t
  have h := h t
  unfold Grant.lawful
  split at h <;> simp_all
theorem test_witness_BucketsStayBounded : queued.bucketsBounded := by
  have h : ∀ k, (queued.ei.points.get k).bucket = .full ∧ (queued.limitsOf k).lf = none := by decide +kernel
  intro k
  show Bucket.bounded _ _ _
  rw [(h k).1, (h k).2]
  trivial
theorem test_witness_SessionStaysMirrored : queued.sessionMirrored := by unfold State.sessionMirrored; decide +kernel
theorem test_witness_GrantStaysLawful : queued.grantLawful ∧ (turnOf 2 queued).grantLawful := by
  unfold State.grantLawful
  decide +kernel
theorem test_witness_ClockStaysInRange : queued.clockInRange ∧
    ({ queued with su := { queued.su with clock := ⟨65535, 86399, true⟩ } } : State).clockInRange := by
  unfold State.clockInRange
  decide +kernel
theorem test_witness_SessionEnergyNeverFalls : queued.sessionIsOpen = true ∧
    (after .frameBoundary { queued with pending := [] }).sessionIsOpen = true := by decide +kernel
theorem test_witness_PayloadsStayShort : queued.la.response = none ∧
    ((Response.bytes ⟨.ok, List.replicate 128 0⟩).length ≤ 128) := by decide +kernel
theorem test_witness_SourcesFollowChannels : queued.settings.bindingsDistinct ∧ queued.sourcesFollow := by
  refine ⟨by unfold Settings.bindingsDistinct; decide +kernel, ?_⟩
  simp only [State.sourcesFollow, State.sourceFollows, State.boundLive]
  decide +kernel

/-- A session under every kind of limit: LF 70.00 dB, LW 60.00 dB over 15 minutes, LS 60.00 dB. -/
def limited : State :=
  { busy with
    su := { busy.su with limits := { busy.su.limits with zones := Bank.fill 4 ⟨some 7000, some ⟨6000, 15⟩⟩ } }
    ei := { busy.ei with points := busy.ei.points.renew fun _ x => { x with
      bucket := .amount 0, sessionLimit := some ⟨6000, 396000000⟩ } } }
theorem test_witness_BucketsStayBounded_limited : limited.bucketsBounded ∧ answers { limited with pending := [.frameBoundary] } = true := by
  have h : ∀ k, (limited.ei.points.get k).bucket = .amount 0 ∧ (limited.limitsOf k).lf = some 7000 := by decide +kernel
  refine ⟨fun k => ?_, by decide +kernel⟩
  show Bucket.bounded _ _ _
  rw [(h k).1, (h k).2]
  exact ⟨by omega, by omega⟩

/-- A turn of an authorized slot: an operator asks what only the authority may. -/
theorem test_witness_RefusalChangesNothing : let s := turnOf 1 stocked
    s.powered = true ∧ (s.taken 1).isSome = true ∧ (s.settings.stations.get 1).authorized = true ∧
    answerTo (.holdForce [0]) s = some (.role, []) ∧ (after (.holdForce [0]) s).la.link = .responding 1 := by decide +kernel
theorem test_witness_JudgementOrderIsKept : let s := turnOf 1 stocked
    s.powered = true ∧ (s.taken 1).isSome = true ∧ (s.settings.stations.get 1).authorized = true ∧
    permitted (s.settings.stations.get 1).role .holdForce [0] = false ∧
    permitted (s.settings.stations.get 1).role .sessionOpen [0] = true ∧ ([0] : List Byte).length ∉ Request.sessionOpen.forms := by
  decide +kernel
/-- An end minute of 1440, and a point above 7. -/
theorem test_witness_JudgementOrderIsKept_unread : (∃ u, (turnOf 1 stocked).admits 1 .sessionOpen [5, 0xA0] u) ∧
    Request.sessionOpen.reads [5, 0xA0] = false ∧ (∃ u, (turnOf 1 stocked).admits 1 .pointWrite [8, 0, 0, 0, 0, 0x1D, 0x4C] u) ∧
    Request.pointWrite.reads [8, 0, 0, 0, 0, 0x1D, 0x4C] = false :=
  ⟨admits_of_admitted (by decide +kernel), by decide +kernel, admits_of_admitted (by decide +kernel), by decide +kernel⟩
/-- Slots 4, 5 and 6: dropped, refused, and demoted with a request an observer may make and one it may not. -/
theorem test_witness_UnauthorizedRequestIsRecorded :
    (∀ k ∈ [(4 : SlotId), 5, 6], (frameTurn (turnOf k stocked)).isSome = true ∧ (stocked.settings.stations.get k).authorized = false) ∧
    (stocked.settings.stations.get 4).treatment = .drop ∧ (stocked.settings.stations.get 5).treatment = .refuse ∧
    (stocked.settings.stations.get 6).treatment = .demote ∧ Request.holdForce.ofObserver = false ∧ Request.recordRead.ofObserver = true ∧
    ([0, 0, 1] : List Byte).length ∈ Request.recordRead.forms ∧ ([] : List Byte).length ∉ Request.recordRead.forms ∧
    ([] : List Byte).length ∈ Request.statusRead.forms := by
  decide +kernel
/-- R188, step 1: a demoted read is answered, and recorded before it. -/
theorem test_demoted_read : let t := after (.couplingRead [1]) (turnOf 6 stocked)
    (t.rr.list.drop 1).map (·.body) = [.access 6 .unauthorized Request.couplingRead.code] ∧
    (t.nu.get 0).pending = [.access 6 .unauthorized] ∧ (t.la.response.map (·.status)) = some .ok := by decide +kernel
theorem test_demoted_unknown : let t := after (.unknownRequest 0x5B []) (turnOf 6 stocked)
    (t.rr.list.drop 1).map (·.body) = [.access 6 .unauthorized 0x5B] ∧ (t.la.response.map (·.status)) = some .unknown := by decide +kernel
/-- A save under way. -/
def saving (s : State) : State := { s with st := { s.st with saving := some s.settings } }
theorem test_witness_SavingFreezesSettings : (saving (turnOf 1 stocked)).isSaving = true ∧
    answerTo (.shareWrite (List.replicate 8 0)) (saving (turnOf 1 stocked)) = some (.busy, []) := by decide +kernel

/-- Channel 0 changed. -/
def withChannel (x : Channel) (s : State) : State := s.setChannel 0 x
theorem test_witness_bindings : stocked.settings.bindingsDistinct := by unfold Settings.bindingsDistinct; decide +kernel
/-- Silence with the timer stopped, running in STALE, running in LIVE; a fourth and a fifth bad frame. -/
theorem test_witness_ChannelGoesStale : stocked.powered = true ∧
    ((withChannel { liveChannel 258 with silence := false } stocked).sp.get 0).silence = false ∧
    ((withChannel { liveChannel 258 with state := .stale } stocked).sp.get 0).state = .stale ∧
    (stocked.sp.get 0).silence = true ∧ (stocked.sp.get 0).state = .live ∧ (stocked.sp.get 0).receiving = true ∧
    headFrame (cleanChars [1]) = none ∧
    ((withChannel { liveChannel 258 with badRun := 3 } stocked).sp.get 0).badRun < 4 ∧
    4 ≤ ((withChannel { liveChannel 258 with badRun := 4 } stocked).sp.get 0).badRun := by decide +kernel
/-- A frame of identity `hi`, `lo`, with its sequence and flags. -/
def frameOf (hi lo seq flags : Byte) : List RxChar :=
  cleanChars ([hi, lo, seq, 0x0F, 0xA0, 0x0F, 0xA0, flags, 0] ++ [crc8 [hi, lo, seq, 0x0F, 0xA0, 0x0F, 0xA0, flags, 0]])
/-- The clauses of GoodFrameActsByState: discarded, another identity, a duplicate, each flag, and each state that counts. -/
theorem test_witness_GoodFrameActsByState :
    headFrame (frameOf 1 2 5 0) = some ⟨258, 5, 4000, 4000, false, false, false⟩ ∧
    headFrame (frameOf 1 3 5 0) = some ⟨259, 5, 4000, 4000, false, false, false⟩ ∧
    headFrame (frameOf 1 2 4 0) = some ⟨258, 4, 4000, 4000, false, false, false⟩ ∧
    headFrame (frameOf 1 2 5 4) = some ⟨258, 5, 4000, 4000, false, false, true⟩ ∧
    headFrame (frameOf 1 2 5 2) = some ⟨258, 5, 4000, 4000, false, true, false⟩ ∧
    (stocked.sp.get 2).state = .unbound ∧ (stocked.sp.get 0).state = .live ∧ (stocked.sp.get 0).accepted = 258 ∧
    (stocked.sp.get 0).lastSeq = some 4 := by decide +kernel
theorem test_settling_becomes_live : let s := withChannel { liveChannel 258 with state := .settling, goodCount := 9 } stocked
    ((after (.frameArrival 0 (frameOf 1 2 5 0)) s).sp.get 0).state = .live := by decide +kernel
theorem test_other_head_faults : ((after (.frameArrival 0 (frameOf 1 3 5 0)) stocked).sp.get 0).state = .faulted := by decide +kernel

theorem test_witness_LineEventsTouchOnlyTheLine : stocked.powered = true ∧ (∀ x, (turnOf 2 stocked).la.link ≠ .free x) ∧
    ((stocked.setArb 3 ⟨false, true, 3⟩).la.slots.get 3).broken = true ∧ stocked.la.link = .free (some 0) :=
  ⟨rfl, (fun _ h => nomatch h), by decide +kernel, rfl⟩
theorem test_witness_FreeLinkIsArbitrated : stocked.powered = true ∧ stocked.la.link = .free (some 0) ∧
    (stocked.la.slots.get 2).broken = false ∧ ({ stocked with la := { stocked.la with link := .clearing } } : State).la.link = .clearing ∧
    ({ stocked with la := { stocked.la with link := .responding 2 } } : State).la.link = .responding 2 ∧ stocked.la.resetDue = false := by
  decide +kernel
theorem test_witness_MissesAreCounted : (frameTurn (turnOf 2 stocked)).isSome = true ∧ (frameTurn stocked).isSome = true ∧
    (turnOf 2 stocked).la.link = .turn 2 false ∧ 59 < (60 : Byte).toNat ∧ frameFault 2 (cleanChars [2, 1, 0, 0, 0]) ≠ none ∧
    ((turnOf 2 stocked).taken 2).isSome = true := by decide +kernel

theorem test_witness_StoreKeepsAWholeImage : (∃ u, (turnOf 0 stocked).admits 0 .storeSave [] u) ∧ stocked.st.saving = none ∧
    (∃ u, (saving (turnOf 0 stocked)).admits 0 .storeSave [] u) ∧ (saving stocked).st.saving = some stocked.settings ∧
    stocked.powered = true :=
  ⟨admits_of_admitted (by decide +kernel), rfl, admits_of_admitted (by decide +kernel), rfl, rfl⟩
/-- Power-up after no save, after a save, with a whole image and with one that fails. -/
theorem test_witness_PowerUpStartsThePart : stocked.st.saving = none ∧ (saving stocked).st.saving = some stocked.settings ∧
    stocked.st.matches = true ∧ (stocked.st.torn 0).matches = false :=
  ⟨rfl, rfl, Store.written_matches _, Store.torn_matches _ _⟩
/-- A RESET outside and during a save; its response's end in a session, with a BROKEN slot and a forced hold. -/
theorem test_witness_ResetRestartsTheBlocks : (∃ u, (turnOf 0 stocked).admits 0 .reset [] u) ∧ stocked.st.saving = none ∧
    (∃ u, (saving (turnOf 0 stocked)).admits 0 .reset [] u) ∧ (saving stocked).st.saving ≠ none ∧
    ∃ s : State, s.powered = true ∧ s.la.link = .responding 0 ∧ s.la.resetDue = true ∧ s.su.session ≠ none ∧
      (s.la.slots.get 2).broken = true ∧ (s.gu.grants.get 1).forced = true ∧ s.ae.handed ≠ none := by
  refine ⟨admits_of_admitted (by decide +kernel), rfl, admits_of_admitted (by decide +kernel), by decide +kernel,
    { (waiting.setArb 2 ⟨false, true, 3⟩).setGrant 1 { waiting.gu.grants.get 1 with forced := true } with
      la := { waiting.la with slots := waiting.la.slots.set 2 ⟨false, true, 3⟩, link := .responding 0, resetDue := true } },
    ?_⟩
  decide +kernel

theorem test_witness_PeriodInForceGivesTheLimits : State.reset.su.clock.valid = false ∧ stocked.su.clock.valid = true ∧
    stocked.settings.schedule ≠ [] := by decide +kernel
/-- A second short of a minute, with a pending schedule that is lawful and one that is empty. -/
def minuteDue (list : List Period) (commit : Bool) : State :=
  { stocked with su := { stocked.su with clock := ⟨10, 43259, true⟩, pendingList := list, commit := commit } }
theorem test_witness_ClockAdvances : (43200 + 1) % 60 ≠ 0 ∧ (43259 + 1) % 60 = 0 ∧ stocked.powered = true ∧
    (minuteDue [] false).su.commit = false ∧ (minuteDue stocked.settings.schedule true).su.commit = true ∧
    checkSchedule stocked.settings.schedule stocked.su.pendingAllowance = none ∧
    checkSchedule [] stocked.su.pendingAllowance ≠ none := by decide +kernel
/-- The six reasons of R78, each the first that fails, at the values next to a lawful one. -/
theorem test_schedule_reasons : let a : Allowance := ⟨Bank.fill 4 none, 1439⟩
    let q : Period := ⟨0, .opened, 60, Bank.fill 4 ⟨some 3000, some ⟨13000, 60⟩⟩⟩
    [checkSchedule [] a, checkSchedule [q, q] a, checkSchedule [{ q with start := 1440 }] a,
      checkSchedule [{ q with zones := Bank.fill 4 ⟨none, some ⟨3000, 0⟩⟩ }] a, checkSchedule [{ q with ramp := 61 }] a,
      checkSchedule [q] { a with latestEnd := 1440 }, checkSchedule [q] a] =
    [some .count, some .order, some .range, some .window, some .ramp, some .sessionEnd, none] := by decide +kernel
theorem test_schedule_adopted : let t := after .clockMinuteBoundary (minuteDue [⟨0, .stop, 0, Bank.fill 4 ⟨none, none⟩⟩] true)
    t.settings.schedule.length = 1 ∧ t.su.limits.stop = some 0 := by decide +kernel

theorem test_witness_SourceGivesTheFramePower : (venue.pm.points.get 0).source ≠ .blind ∧ (stocked.pm.points.get 0).source = .primary ∧
    (stocked.settings.channelMap.get 0).binding = .primary 0 ∧ (stocked.sp.get 0).slot.count = 0 ∧
    ((withChannel { liveChannel 258 with slot := ⟨20, 20, 2, 0, 0⟩ } stocked).sp.get 0).slot.count ≠ 0 ∧
    ((after (.silenceTimerExpiry 0) stocked).pm.points.get 0).source = .blind := by decide +kernel
/-- The phases before a plain boundary, a second, a minute and an interval close, and the phase that wraps. -/
theorem test_witness_BoundaryAccountsEnergy : limited.powered = true ∧ limited.sessionIsOpen = true ∧
    (limited.settings.points.get 0).enabled = true ∧ (limited.settings.points.get 1).enabled = false ∧
    limited.ei.phase = 0 ∧ (9 + 1) % 10 = 0 ∧ (599 + 1) % 600 = 0 ∧ (2999 + 1) % 600 = 0 ∧
    (limited.pm.refs.get 0).seeing = true ∧ (limited.settings.channelMap.get 1).binding = .reference 0 ∧
    (limited.pm.refs.get 1).seeing = false ∧ limited.settings.bindingsDistinct := by
  unfold Settings.bindingsDistinct
  decide +kernel
/-- Point 0 under all three tiers: 31623 pu arrive over a bucket of 0 and a fast limit of 10^4 pu. -/
theorem test_witness_TiersAreTestedAtTheBoundary : limited.powered = true ∧ answers { limited with pending := [.frameBoundary] } = true ∧
    (limited.settings.points.get 0).enabled = true ∧ (limited.limitsOf 0).lf = some 7000 ∧
    (limited.ei.points.get 0).bucket = .amount 0 ∧ (limited.ei.points.get 0).sessionLimit = some ⟨6000, 396000000⟩ ∧
    limited.sessionIsOpen = true ∧ 2 ≤ limited.ei.sessionFrames ∧ (limited.limitsOf 0).window = some ⟨6000, 15⟩ := by decide +kernel
/-- Point 0 of `limited` changed. -/
def withExposure (f : PointExposure → PointExposure) (s : State) : State := s.setExposure 0 (f (s.ei.points.get 0))
/-- R45: an empty bucket below 0 is EXCEEDED: LF is 45.00 dB, 32 pu, against a frame of 31623 pu. -/
theorem test_fast_tier_starts : let s := { limited with su := { limited.su with
      limits := { limited.su.limits with zones := Bank.fill 4 ⟨some 4500, none⟩ } } }
    let x := (after .frameBoundary s).ei.points.get 0
    x.bucket = .amount (-31591) ∧ x.fastEp = some ⟨7500, none, 0⟩ := by decide +kernel
theorem test_fast_tier_ends : let s := withExposure (fun x => { x with
      bucket := .amount (10 ^ 4 * 3000), fastEp := some ⟨7500, none, 19⟩ }) limited
    ((after .frameBoundary s).ei.points.get 0).fastEp = none := by decide +kernel
/-- `limited` before its session's last frame, with an open session tier at the disabled point 1. -/
def lastFrame : State :=
  let s := { limited with ei := { limited.ei with sessionFrames := 1 } }
  s.setExposure 1 { s.ei.points.get 1 with sessionEp := some ⟨7000, some 7100, 25⟩ }
/-- R51, R54: the starts at the last frame, fast before session, both ends in point order, then the close. -/
theorem test_session_ends_with_its_tiers : let s := withExposure (fun x => { x with eS := 396000000 }) lastFrame
    lastFrame.sessionIsOpen = true ∧ ((after .frameBoundary s).rr.list.map (·.body)).tail =
      [.exceedanceStart 0 .fast 7500 7000, .exceedanceStart 0 .session 7500 6000, .exceedanceEnd 0 .session 7500 0, .exceedanceEnd 1 .session 7100 2,
        .sessionClosed 1 396000 .ended] := by decide +kernel
theorem test_session_tier_starts : let s := withExposure (fun x => { x with eS := 396000000 }) limited
    ((after .frameBoundary s).ei.points.get 0).sessionEp = some ⟨7500, none, 0⟩ := by decide +kernel
/-- R47: one minute of 31623 · 600 over 15 minutes is a mean of 2108 pu, 63.24 dB, above 60.00 dB. -/
theorem test_window_tier_starts : let s := withExposure (fun x => { x with bin := 31623 * 599 }) { limited with ei := { limited.ei with phase := 599 } }
    ((after .minuteClose s).ei.points.get 0).windowEp = some ⟨6324, some 6324, 0⟩ := by
  intro s
  rw [(after_close s rfl).2 (by decide +kernel)]
  decide +kernel
theorem test_witness_BoundaryClosesInOrder : limited.powered = true ∧ answers { limited with pending := [.secondClose] } = true ∧
    limited.su.session = some ⟨1, 1380, 396000, Bank.fill 4 none⟩ ∧ 2 ≤ limited.ei.sessionFrames ∧ stocked.su.session = none ∧
    (surveying .quiet stocked).cs.state = .quiet ∧ (surveying .signal stocked).cs.state = .signal := by
  decide +kernel

/-! ### Witnesses: the pass and the grant unit -/

theorem test_witness_PassResultMovesCeilings_waiting : waiting.powered = true ∧ waiting.ae.pass = none ∧ waiting.ae.handed.isSome = true ∧
    stocked.ae.pass = none ∧ stocked.ae.handed = none := by decide +kernel
theorem test_witness_PassResultMovesCeilings : inFlight.powered = true ∧ (inFlight.ae.pass.map fun i =>
      (i.dropped.get 0, (i.stages.get 0).enabled, (i.stages.get 1).enabled)) = some (false, true, false) ∧
    (inFlight.settings.stages.get 0).enabled = true ∧ (inFlight.gu.grants.get 0).compliance = .tracking := by decide +kernel
/-- Stage 0 after four loud seconds under a ceiling of 60.00 dB, and a pass whose second has it at level `l`. -/
def loudAt (l : Nat) : State :=
  let s := { inFlight with ae := { inFlight.ae with pass := inFlight.ae.pass.map fun i =>
    { i with snap := { i.snap with stages := i.snap.stages.set 0 ⟨.seeing l, 0⟩ } } } }
  withGrant { inFlight.gu.grants.get 0 with overrun := 4 } s
/-- R149: the margin is 3.00 dB; the level must be above it. -/
theorem test_overrun_enforces : ((after .passResult (loudAt 6301)).gu.grants.get 0).cause = some .overrun := by decide +kernel
/-- R149, R153: in ENFORCED the overrun restarts the count alone; no record, no notice. -/
theorem test_overrun_in_enforced :
    let s := withGrant { (loudAt 6301).gu.grants.get 0 with compliance := .enforced, cause := some .ackTimeout } (loudAt 6301)
    let t := after .passResult s
    (t.gu.grants.get 0).cause = some .ackTimeout ∧ (t.gu.grants.get 0).overrun = 0 ∧ t.rr = s.rr ∧ t.nu = s.nu := by decide +kernel
/-- R168: the ENFORCEMENT record brings the held count to the threshold of 768: RING beside HOLD. -/
theorem test_overrun_crosses_threshold : ((after .passResult { loudAt 6301 with rr := ringOf 767 aSummary }).nu.get 0).pending.map (·.cls) =
    [.hold, .ring] := by decide +kernel
theorem test_margin_is_not_loud : ((after .passResult (loudAt 6300)).gu.grants.get 0).overrun = 0 := by decide +kernel
theorem test_witness_AllowancesAndSharesAreBounded : 1 ≤ (600 : Nat) ∧
    (inFlight.ae.pass.map fun i => (i.pointAllowance 0).isSome) = some true ∧
    (inFlight.ae.pass.map fun i => (i.isPlaying 0, (i.stages.get 0).share)) = some (true, 128) := by decide +kernel
theorem test_witness_TargetsRespectEveryAllowance : (inFlight.ae.pass.map fun i =>
      (i.curfew.stop, i.isOpen, decide ((i.stages.get 0).floor ≤ (i.stages.get 0).top))) = some (false, true, true) ∧
    (inFlight.ae.pass.map fun i => ({ i with curfew := ⟨true, none⟩ } : PassInputs).curfew.stop) = some true ∧
    (inFlight.ae.pass.map fun i => ({ i with session := none, snap := { i.snap with sessionOpen := false } } : PassInputs).isOpen) =
      some false := by decide +kernel
/-- R128, R129: 600 s before a STOP with a ramp of 30 minutes the line stands a third of the way up, 60.00 + 42.00/3 dB. -/
theorem test_curfew_line : (inFlight.ae.pass.map fun i =>
      (({ i with curfew := ⟨false, some ⟨600, 30, 1320⟩⟩, coupling := Bank.fill 4 (Bank.fill 8 none) } : PassInputs).select 0).1) =
    some 7400 := by decide +kernel

/-- A grant record of the enabled stage in a compliance state of its own. -/
def standing (c : Compliance) (timer hold applied : Option Nat) (forced : Bool) : Grant :=
  { Grant.afterReset stageOn with
    compliance := c, complianceTimer := timer, holdTimer := hold, applied := applied, forced := forced }
theorem test_witness_GrantTimersExpire : stocked.powered = true ∧
    (standing .pending (some 5) none none false).complianceTimer ≠ none ∧ (standing .releasing (some 5) (some 10) none true).holdTimer ≠ none ∧
    (standing .tracking none none none false).complianceTimer = none ∧ (standing .tracking none none none false).holdTimer = none ∧
    ((withGrant (standing .pending (some 5) none none false) stocked).gu.grants.get 0).compliance = .pending := by decide +kernel
theorem test_witness_HoldIsForcedAndFreed : readIndex 4 [3] = some 3 ∧ readIndex 4 [0] = some 0 ∧
    (∃ w, (turnOf 0 stocked).admits 0 .holdForce [0] w) ∧ (∃ w, (turnOf 0 stocked).admits 0 .holdUnforce [3] w) ∧
    (stocked.gu.grants.get 0).forced = false ∧ ((withGrant (standing .tracking none none none true) stocked).gu.grants.get 0).forced = true ∧
    ((withGrant (standing .enforced none none none false) stocked).gu.grants.get 0).compliance = .enforced :=
  ⟨by decide +kernel, by decide +kernel, admits_of_admitted (by decide +kernel), admits_of_admitted (by decide +kernel), by decide +kernel,
    by decide +kernel, by decide +kernel⟩
/-- Acknowledgements at the bound and above it, in every state: 60.50 dB and 60.51 dB under a ceiling of 60.00 dB. -/
theorem test_witness_AcknowledgementIsJudged :
    (∀ c ∈ [Compliance.disabled, .tracking, .pending, .enforced, .releasing],
      ∃ w, (withGrant (standing c (some 5) (some 10) none false) (turnOf 2 stocked)).admits 2 .grantAck [0, 0x17, 0xA2, 0] w) ∧
    readAck [0, 0x17, 0xA2, 0] = some (0, 6050, false) ∧ readAck [0, 0x17, 0xA3, 0] = some (0, 6051, false) ∧
    readAck [0, 0, 0, 1] = some (0, 0, true) ∧ (standing .tracking none none none false).c = 6000 := by
  refine ⟨fun c hc => admits_of_admitted ?_, by decide +kernel⟩
  revert c
  decide +kernel
theorem test_ack_enforced_releases : let s := withGrant (standing .enforced none none none false) (turnOf 2 stocked)
    ((after (.grantAck [0, 0x17, 0xA2, 0]) s).gu.grants.get 0).holdTimer = some 10 := by decide +kernel

/-! ### Witnesses: the requests -/

/-- Requests of the authority that the statements on requests speak of. -/
def authorityRequests : List (Request × List Byte) :=
  [(.levelsRead, [0, 8]), (.couplingRead, [3]), (.schedRead, [3, 0]), (.recordRead, [0, 0, 1]), (.grantQuery, [3]), (.statusRead, []),
   (.shareWrite, [1, 0, 0, 0, 0, 0, 0, 0]), (.couplingWrite, [3, 7, 0xDC, 0xD8]), (.dispatchWrite, [1, 15]), (.arbWrite, [1, 1, 7]),
   (.schedWrite, 0 :: stopAt22), (.schedClear, []), (.schedCommit, []), (.sessionLimitWrite, List.replicate 14 0),
   (.fallbackWrite, List.replicate 24 0), (.timeSet, [0, 0, 0, 1, 0x51, 0x7F]), (.roleWrite, [7, 4, 0xFF, 1, 0]), (.noticeEnable, [1]),
   (.arbClear, [2]), (.recordRelease, [0, 1]),
   (.timingWrite, [2, 0x58, 0, 100, 0, 10, 5, 1, 5, 0, 100, 1, 0, 1])]
/-- Requests of the operator. -/
def operatorRequests : List (Request × List Byte) :=
  [(.sessionOpen, []), (.sessionOpen, [5, 0x64]), (.sessionClose, []), (.pointWrite, [0, 0, 3, 0, 0, 0x0B, 0xB8]),
   (.stageWrite, [0, 0, 0x17, 0x70, 0x27, 0xD8, 0x1B, 0x58]), (.channelBind, [2, 1, 0, 0, 0]), (.surveyStart, [0, 120, 0x17, 0x70]),
   (.surveyAbort, []), (.surveyAccept, []), (.surveyDiscard, []), (.surveyRead, [])]
theorem test_witness_requests_are_admitted : (∀ x ∈ authorityRequests, ∃ w, (turnOf 0 stocked).admits 0 x.1 x.2 w) ∧
    ∀ x ∈ operatorRequests, ∃ w, (turnOf 1 stocked).admits 1 x.1 x.2 w := by
  refine ⟨fun x hx => admits_of_admitted ?_, fun x hx => admits_of_admitted ?_⟩
  · revert x
    decide +kernel
  · revert x
    decide +kernel
theorem test_witness_ReadsChangeNothing : readLevelsPart [0, 8] = some (.channels 8) ∧ readIndex 4 [3] = some 3 ∧
    readSchedList [3, 0] = some (.allowance, 0) ∧ readRecordSpan [0, 0, 1] = some (0, 1) := by decide +kernel
/-- R204: C and T at 60.00 dB, CLOSED, TRACKING, last enforced by POWER_UP, 60.00 dB applied. -/
theorem test_grant_query_bytes : answerTo (.grantQuery [0]) (turnOf 1 stocked) =
    some (.ok, [0x17, 0x70, 0x17, 0x70, 4, 1, 1, 3, 1, 0x17, 0x70, 0, 0, 0, 0, 0, 0, 0, 0, 0]) := by decide +kernel
/-- R203: day 10, 43200 s, valid; SCHEDULE, period 0; one active period, none pending; two tables whose latest end is 23:00. -/
theorem test_sched_read_bytes : answerTo (.schedRead [3, 0]) (turnOf 3 stocked) =
    some (.ok, [0, 10, 0x80, 0, 0xA8, 0xC0, 1, 0, 0, 1, 0, 0, 2] ++ List.replicate 12 0 ++ [5, 0x64] ++ List.replicate 12 0 ++ [5, 0x64]) := by
  decide +kernel
/-- R206: the GAP record of the power-up. -/
theorem test_record_read_bytes : answerTo (.recordRead [0, 0, 1]) (turnOf 3 stocked) =
    some (.ok, [0, 1, 0, 0, 1] ++ [0, 0, 0, 0, 11, 15, 0, 0, 0, 0, 0, 0, 0, 0, 0]) := by decide +kernel
/-- R205: EXCEED of point 5, tier W, with RING, the eighth class, remaining. -/
theorem test_notice_bytes : (answerTo (.statusRead []) (turnOf 3 (stocked.setPendingSet 3 [.exceed 5 .window, .ring 768]))).map
    (·.2.drop 85) = some [2, 5, 1, 0, 0, 0x80] := by decide +kernel
/-- R109, R198: DONE, stage 0, d 10, 70.00 dB; point 0 RESOLVED with −30.00 dB, 35.00 dB and 40.00 dB. -/
theorem test_survey_read_bytes : (answerTo (.surveyRead []) (turnOf 1 surveyed)).map (fun x => (x.2.take 5, (x.2.drop 26).take 11, x.2.length)) =
    some ([3, 0, 10, 0x1B, 0x58], [1, 0, 1, 0xF4, 0x48, 1, 0x0D, 0xAC, 1, 0x0F, 0xA0], 109) := by decide +kernel
/-- SESSION_OPEN: each bar of R82 in turn, then an end that is reached and one that is not. -/
theorem test_witness_SessionsOpenAndClose : readEndMinute [] = some none ∧ readEndMinute [5, 0x64] = some (some 1380) ∧
    busy.su.session ≠ none ∧ stocked.su.session = none ∧ venue.su.clock.valid = false ∧ stocked.su.clock.valid = true ∧
    (surveying .quiet stocked).cs.state = .quiet ∧ stocked.su.limits.stop = none ∧
    (minuteDue [] false).settings.allowance.latestEnd = 1380 ∧ (stocked.settings.coupling.get 0).get 0 ≠ none := by decide +kernel
theorem test_session_open_unset : let g := stocked.settings
    answerTo (.sessionOpen []) (turnOf 1 { stocked with settings := { g with coupling := Bank.fill 4 (Bank.fill 8 none) } }) =
      some (.state .coupling, []) := by decide +kernel
theorem test_witness_PointWriteTakesEffect : readPoint [0, 0, 3, 0, 0, 0x0B, 0xB8] = some (0, ⟨false, 3, 0, 3000⟩) ∧
    readPoint [0, 1, 0, 0, 0, 0x32, 0xC8] = some (0, ⟨true, 0, 0, 13000⟩) ∧
    (stocked.settings.points.get 0).enabled = true ∧ busy.su.session ≠ none ∧ stocked.st.saving = none := by decide +kernel
/-- R41: a disabling drops the sums of the second under way. -/
theorem test_point_disabled : let s := withExposure (fun x => { x with secondSum := 7 }) stocked
    ((after (.pointWrite [0, 0, 0, 0, 0, 0x1D, 0x4C]) (turnOf 1 s)).ei.points.get 0).secondSum = 0 := by decide +kernel
theorem test_witness_StageWriteTakesEffect :
    readStage [0, 1, 0x17, 0x70, 0x17, 0xD4, 0x0F, 0xA0] = some (0, true, 6000, 6100, 4000) ∧
    readStage [0, 1, 0x17, 0x70, 0x17, 0xD3, 0x0F, 0xA0] = none ∧ readStage [1, 1, 0x0F, 0xA0, 0x2C, 0xEC, 0x27, 0x10] =
      some (1, true, 4000, 11500, 10000) ∧ (stocked.settings.stages.get 0).enabled = true ∧
    (stocked.settings.stages.get 1).enabled = false := by decide +kernel
theorem test_stage_clamped : let t := after (.stageWrite [0, 1, 0x1B, 0x58, 0x27, 0xD8, 0x1B, 0x58]) (turnOf 1 stocked)
    ((t.gu.grants.get 0).c, (t.gu.grants.get 0).compliance) = (7000, .tracking) := by decide +kernel
/-- R147, R154: a lowered top takes RELEASING above its ceiling, which starts the deadline and posts LOWERED. -/
theorem test_releasing_lowered : let s := withGrant { standing .releasing none (some 10) (some 7000) false with c := 7000, t := 7000 } stocked
    let t := after (.stageWrite [0, 1, 0x17, 0x70, 0x19, 0x64, 0x1B, 0x58]) (turnOf 1 s)
    ((t.gu.grants.get 0).compliance, (t.gu.grants.get 0).complianceTimer, (t.nu.get 2).pending) =
      (.releasing, some 5, [.lowered 0 6500]) := by decide +kernel
theorem test_witness_ChannelBindTakesEffect : readBind [2, 1, 0, 0, 0] = some (2, ⟨.primary 0, 0⟩) ∧
    readBind [15, 0, 255, 0, 0] = some (15, ⟨.unused, 0⟩) ∧ readBind [0, 3, 3, 255, 255] = some (0, ⟨.reference 3, 65535⟩) ∧
    (stocked.settings.channelMap.get 0).binding = .primary 0 ∧ stocked.su.session = none ∧ stocked.st.saving = none := by decide +kernel
/-- `stocked` with point 1 enabled too, its PRIMARY channel 2 LIVE: giving channel 0 that binding takes both points their source. -/
def paired : State :=
  let g := stocked.settings
  { stocked with
    settings := { g with channelMap := g.channelMap.set 2 ⟨.primary 1, 260⟩, points := g.points.set 1 ⟨true, 0, 0, 7500⟩ }
    sp := stocked.sp.set 2 (liveChannel 260)
    pm := { stocked.pm with points := stocked.pm.points.set 1 ⟨.primary, 31623, 31623⟩ } }
theorem test_witness_ChannelBindTakesEffect_two_points : (∃ w, (turnOf 1 paired).admits 1 .channelBind [0, 1, 1, 0, 0] w) ∧
    readBind [0, 1, 1, 0, 0] = some (0, ⟨.primary 1, 0⟩) ∧ paired.settings.bindingsDistinct :=
  ⟨admits_of_admitted (by decide +kernel), by decide +kernel, by unfold Settings.bindingsDistinct; decide +kernel⟩
/-- R104: the surveyed stage's reference is unbound. -/
theorem test_bind_abandons_survey : let t := after (.channelBind [1, 0, 0, 0, 0]) (turnOf 1 (surveying .quiet stocked))
    t.cs.reason = some .channelLost ∧ (t.nu.get 1).pending = [.survey (some .channelLost) 0] := by decide +kernel
theorem test_witness_TableWritesReplaceOneEntry : (readShares [1, 0, 0, 0, 0, 0, 0, 0]).isSome = true ∧
    (readShares [1, 1, 0, 0, 0, 0, 0, 0]).isSome = false ∧ (readShares [1, 0, 1, 0, 0, 0, 0, 0]).isSome = true ∧
    readCoupling [3, 7, 0xDC, 0xD8] = some (3, 7, some (-9000)) ∧ readDispatch [1, 15] = some (0, ⟨true, true, true, true⟩) ∧
    readArbiter [1, 1, 7] = some ⟨true, .default, 7⟩ := by decide +kernel
theorem test_witness_SurveyRequestsTakeEffect : readSurvey [0, 120, 0x17, 0x70] = some (0, 120, 6000) ∧
    readSurvey [0, 10, 0x27, 0xD8] = some (0, 10, 10200) ∧ readSurvey [0, 9, 0x17, 0x70] = none ∧
    surveyed.cs.state = .done ∧ surveyed.cs.results.isSome = true ∧ surveyed.su.session = none ∧ surveyed.st.saving = none ∧
    (surveying .signal stocked).cs.state = .signal ∧ (surveying .aborted stocked).cs.state = .aborted := by decide +kernel
theorem test_survey_needs_reference : answerTo (.surveyStart [0, 10, 0x1B, 0x58])
    (turnOf 1 (after (.silenceTimerExpiry 1) stocked)) = some (.state .reference, []) := by decide +kernel
theorem test_witness_PendingScheduleIsWritten : readPeriod (0 :: stopAt22) = some (0, ⟨1320, .stop, 30, Bank.fill 4 ⟨none, none⟩⟩) ∧
    (readPeriod (16 :: stopAt22)).map (·.1) = some 16 ∧ readAllowance (List.replicate 14 0) = some ⟨Bank.fill 4 none, 0⟩ ∧
    (minuteDue stocked.settings.schedule true).su.commit = true ∧ (minuteDue stocked.settings.schedule true).su.pendingList.length = 1 := by
  decide +kernel
theorem test_witness_ClockAndFallbackAreWritten : readTime [0, 0, 0, 1, 0x51, 0x7F] = some ⟨0, 86399, false⟩ ∧
    readTime [0, 0, 0, 1, 0x51, 0x80] = none ∧ readFallback (List.replicate 24 0) = some (Bank.fill 4 ⟨none, none⟩) ∧
    venue.su.clock.valid = false ∧ stocked.su.clock.valid = true := by decide +kernel
theorem test_witness_StationsAndSlotsAreWritten : readStation [7, 4, 0xFF, 1, 0] = some (7, ⟨.observer, true, .drop⟩) ∧
    readStation [0, 1, 0xFF, 1, 0] = some (0, ⟨.authority, true, .drop⟩) ∧ readEnable [1] = some true ∧ readIndex 8 [2] = some 2 ∧
    ((stocked.setArb 2 ⟨false, true, 3⟩).la.slots.get 2).broken = true ∧ (stocked.la.slots.get 2).broken = false := by decide +kernel
theorem test_witness_RingAndTimingAreWritten : readCount [0, 1] = some 1 ∧ readCount [0, 0] = none ∧ 1 ≤ stocked.rr.list.length ∧
    readTiming [2, 0x58, 0, 100, 0, 10, 5, 1, 5, 0, 100, 1, 0, 1] = some ⟨600, 100, 10, 5, 1, 5, 100, 1, 1⟩ ∧
    readTiming [0x17, 0x70, 0x0B, 0xB8, 2, 0x58, 200, 30, 120, 3, 0xE8, 30, 4, 0] = some ⟨6000, 3000, 600, 200, 30, 120, 1000, 30, 1024⟩ ∧
    readTiming [0x17, 0x71, 0x0B, 0xB8, 2, 0x58, 200, 30, 120, 3, 0xE8, 30, 4, 0] = none := by decide +kernel
/-- R165, R168: after the one record is released the GAP record of three lost brings the held count to the threshold of 1. -/
theorem test_release_posts_ring : let s := { stocked with
      rr := { stocked.rr with lost := 3 }
      settings := { stocked.settings with timing := { stocked.settings.timing with threshold := 1 } } }
    let t := after (.recordRelease [0, 1]) (turnOf 0 s)
    (t.nu.get 0).pending = [.ring 1] ∧ t.rr.lost = 0 := by decide +kernel

/-- The same requests in a session, after a survey, during a save, and under the commit mark. -/
theorem test_witness_requests_elsewhere :
    (∀ x ∈ operatorRequests, (∃ w, (turnOf 1 busy).admits 1 x.1 x.2 w) ∧ (∃ w, (turnOf 1 surveyed).admits 1 x.1 x.2 w) ∧
      (∃ w, (turnOf 1 (surveying .signal stocked)).admits 1 x.1 x.2 w) ∧ ∃ w, (turnOf 1 (saving stocked)).admits 1 x.1 x.2 w) ∧
    ∀ x ∈ authorityRequests, (∃ w, (turnOf 0 (saving stocked)).admits 0 x.1 x.2 w) ∧
      ∃ w, (turnOf 0 (minuteDue stocked.settings.schedule true)).admits 0 x.1 x.2 w := by
  refine ⟨fun x hx => ⟨admits_of_admitted ?_, admits_of_admitted ?_, admits_of_admitted ?_, admits_of_admitted ?_⟩,
    fun x hx => ⟨admits_of_admitted ?_, admits_of_admitted ?_⟩⟩ <;> revert x <;> decide +kernel

end Sys2Proof.Tests
end

