-- ==== Sys2Proof/Proofs/Levels.lean ====
section
/-!
The arithmetic of levels and powers (01_level_and_energy_arithmetic.md). `rootFloor` and `logFloor` are one search, bit by bit, for the
greatest number a falling condition holds of. That gives each conversion one threshold law, `le_p_iff` and `add_le_lv_iff`, and the
statements follow from the two laws without opening a search again.
The lemmas about powers are stated for any exponent, so that no power of the spec's size is evaluated on the way.
-/

namespace Sys2Proof.Proofs.Levels

open Sys2Proof Sys2Proof.Machine

/-! ### The search both conversions make -/

/-- The greatest `acc + c` with `c < 2 ^ bits` that `P` holds of, found bit by bit from the highest. -/
def bitSearch (P : Nat → Prop) [DecidablePred P] : Nat → Nat → Nat
  | 0, acc => acc
  | b + 1, acc => if P (acc + 2 ^ b) then bitSearch P b (acc + 2 ^ b) else bitSearch P b acc

/-- Where `P` falls, holds at the start and fails `2 ^ bits` above it, the search finds the last number it holds of. -/
theorem le_bitSearch_iff (P : Nat → Prop) [DecidablePred P] (hP : ∀ m n, m ≤ n → P n → P m) (r : Nat) :
    ∀ b acc, P acc → ¬ P (acc + 2 ^ b) → (r ≤ bitSearch P b acc ↔ P r)
  | 0, acc, hacc, htop => by
    constructor
    · exact fun hr => hP r acc hr hacc
    · intro hr
      by_contra hlt
      exact htop (hP _ r (by rw [bitSearch] at hlt; omega) hr)
  | b + 1, acc, hacc, htop => by
    rw [bitSearch]
    split
    case isTrue hmid =>
      have htop' : ¬ P (acc + 2 ^ b + 2 ^ b) := by rwa [add_assoc, ← two_mul, ← pow_succ']
      exact le_bitSearch_iff P hP r b (acc + 2 ^ b) hmid htop'
    case isFalse hmid => exact le_bitSearch_iff P hP r b acc hacc hmid

theorem rootFloor_eq_bitSearch (k t : Nat) : ∀ b acc, rootFloor k t b acc = bitSearch (fun r => r ^ k ≤ t) b acc
  | 0, _ => rfl
  | b + 1, acc => by simp only [rootFloor, bitSearch, rootFloor_eq_bitSearch k t b]

theorem logFloor_eq_bitSearch (y : Nat) : ∀ b acc, logFloor y b acc = bitSearch (fun d => 10 ^ (2 * d - 1) ≤ y) b acc
  | 0, _ => rfl
  | b + 1, acc => by simp only [logFloor, bitSearch, logFloor_eq_bitSearch y b]

/-- `rootFloor` from 0 is the floor of the root, where its bits hold it. -/
theorem le_rootFloor_iff {k t b : Nat} (hk : k ≠ 0) (ht : t < (2 ^ b) ^ k) (r : Nat) : r ≤ rootFloor k t b 0 ↔ r ^ k ≤ t := by
  rw [rootFloor_eq_bitSearch]
  refine le_bitSearch_iff _ (fun m n hmn hn => (Nat.pow_le_pow_left hmn k).trans hn) r b 0 ?_ ?_
  · simp [zero_pow hk]
  · simpa using ht

/-- `logFloor` from 0 is the greatest number of the boundary form, where its bits hold it. -/
theorem le_logFloor_iff {y b : Nat} (hy : 1 ≤ y) (htop : y < 10 ^ (2 * 2 ^ b - 1)) (d : Nat) :
    d ≤ logFloor y b 0 ↔ 10 ^ (2 * d - 1) ≤ y := by
  rw [logFloor_eq_bitSearch]
  refine le_bitSearch_iff _ (fun m n hmn hn => (Nat.pow_le_pow_right (by norm_num) (by omega)).trans hn) d b 0 ?_ ?_
  · simpa using hy
  · simpa using htop

/-! ### p -/

theorem aboveThirty_le (l : Int) : aboveThirty l ≤ 10000 := by
  unfold aboveThirty
  omega

theorem aboveThirty_mono {a b : Int} (h : a ≤ b) : aboveThirty a ≤ aboveThirty b := by
  unfold aboveThirty
  omega

/-- Up to the top power, `p` takes the root of no more than the power of twice 10^10. -/
theorem scaledPower_le {k x : Nat} (h : x ≤ 10 * k) : 2 ^ k * 10 ^ x ≤ (2 * 10 ^ 10) ^ k := by
  rw [mul_pow, ← pow_mul]
  exact Nat.mul_le_mul_left _ (Nat.pow_le_pow_right (by norm_num) h)

theorem scaledPower_lt_pow {k x m : Nat} (hk : k ≠ 0) (h : x ≤ 10 * k) (hm : 2 * 10 ^ 10 < m) : 2 ^ k * 10 ^ x < m ^ k :=
  (scaledPower_le h).trans_lt (Nat.pow_lt_pow_left hm hk)

theorem pow_le_scaledPower {m : Nat} (hm : m ≤ 1) (k x : Nat) : m ^ k ≤ 2 ^ k * 10 ^ x :=
  (pow_le_one' hm k).trans (Nat.mul_pos (by positivity) (by positivity))

theorem scaledPower_mono (k : Nat) {x y : Nat} (h : x ≤ y) : 2 ^ k * 10 ^ x ≤ 2 ^ k * 10 ^ y :=
  Nat.mul_le_mul_left _ (Nat.pow_le_pow_right (by norm_num) h)

/-- The threshold law of `p`: a power is reached exactly where the real number reaches half a unit below it (R5). -/
theorem le_p_iff (l : Int) (n : Nat) : n ≤ p l ↔ (2 * n - 1) ^ 1000 ≤ 2 ^ 1000 * 10 ^ aboveThirty l := by
  rw [← le_rootFloor_iff (by norm_num) (scaledPower_lt_pow (by norm_num) (aboveThirty_le l) (by norm_num)) (b := 35), p]
  omega

/-- What is below half a unit above the rounded power (R5). -/
theorem scaledPower_lt (l : Int) : 2 ^ 1000 * 10 ^ aboveThirty l < (2 * p l + 1) ^ 1000 := by
  rw [← not_le, show 2 * p l + 1 = 2 * (p l + 1) - 1 by omega, ← le_p_iff]
  omega

theorem one_le_p (l : Int) : 1 ≤ p l :=
  (le_p_iff l 1).mpr (pow_le_scaledPower (by norm_num) 1000 _)

theorem p_le (l : Int) : p l ≤ 10 ^ 10 := by
  by_contra hlt
  have hroot := (le_p_iff l (10 ^ 10 + 1)).mp (by omega)
  exact absurd hroot (not_le.mpr (scaledPower_lt_pow (by norm_num) (aboveThirty_le l) (by norm_num)))

theorem p_mono {a b : Int} (h : a ≤ b) : p a ≤ p b :=
  (le_p_iff b (p a)).mpr (((le_p_iff a (p a)).mp le_rfl).trans (scaledPower_mono 1000 (aboveThirty_mono h)))

/-! ### Lv -/

theorem lv_of_lt_one {x : Int} (h : x < 1) : lv x = 3000 := if_pos h

theorem lv_of_top_le {x : Nat} (h : 10 ^ 10 ≤ x) : lv x = 13000 := by
  rw [lv, if_neg (by omega), if_pos (by omega)]

theorem lv_of_lt_top {x : Nat} (h1 : 1 ≤ x) (h : x < 10 ^ 10) : lv x = 3000 + logFloor (x ^ 2000) 14 0 := by
  rw [lv, if_neg (by omega), if_neg (by omega), Int.toNat_natCast]

theorem pow_lt_ten_pow {x k m : Nat} (hx : x < 10 ^ 10) (hk : k ≠ 0) (hm : 10 * k ≤ m) : x ^ k < 10 ^ m :=
  calc x ^ k < (10 ^ 10) ^ k := Nat.pow_lt_pow_left hx hk
    _ = 10 ^ (10 * k) := (pow_mul ..).symm
    _ ≤ 10 ^ m := Nat.pow_le_pow_right (by norm_num) hm

theorem ten_pow_le_pow {x k m : Nat} (hx : 10 ^ 10 ≤ x) (hm : m ≤ 10 * k) : 10 ^ m ≤ x ^ k :=
  calc 10 ^ m ≤ 10 ^ (10 * k) := Nat.pow_le_pow_right (by norm_num) hm
    _ = (10 ^ 10) ^ k := pow_mul ..
    _ ≤ x ^ k := Nat.pow_le_pow_left hx k

/-- Below the top power the search of `lv` has the bits it needs. -/
theorem le_logFloor_pow_iff {x : Nat} (h1 : 1 ≤ x) (h : x < 10 ^ 10) (d : Nat) :
    d ≤ logFloor (x ^ 2000) 14 0 ↔ 10 ^ (2 * d - 1) ≤ x ^ 2000 :=
  le_logFloor_iff (one_le_pow₀ h1) (pow_lt_ten_pow h (by norm_num) (by norm_num)) d

/-- The threshold law of `lv`, the boundary form of R6. -/
theorem add_le_lv_iff {x d : Nat} (hx : 1 ≤ x) (hd : d ≤ 10000) : 3000 + d ≤ lv x ↔ 10 ^ (2 * d - 1) ≤ x ^ 2000 := by
  rcases Nat.lt_or_ge x (10 ^ 10) with h | h
  · rw [lv_of_lt_top hx h, Nat.add_le_add_iff_left, le_logFloor_pow_iff hx h]
  · exact iff_of_true (by rw [lv_of_top_le h]; omega) (ten_pow_le_pow h (by omega))

theorem le_lv (x : Int) : 3000 ≤ lv x := by
  unfold lv
  split
  · exact le_rfl
  · split <;> omega

theorem lv_le {x : Nat} (hx : 1 ≤ x) : lv x ≤ 13000 := by
  rcases Nat.lt_or_ge x (10 ^ 10) with h | h
  · rw [lv_of_lt_top hx h]
    by_contra hlt
    have hpow := (le_logFloor_pow_iff hx h 10001).mp (by omega)
    exact absurd hpow (not_le.mpr (pow_lt_ten_pow h (by norm_num) (by norm_num)))
  · exact (lv_of_top_le h).le

theorem lv_mono_of_one_le {a b : Nat} (ha : 1 ≤ a) (h : a ≤ b) : lv a ≤ lv b := by
  obtain ⟨d, hd⟩ := Nat.exists_eq_add_of_le (le_lv a)
  have hle : d ≤ 10000 := by have := lv_le ha; omega
  rw [hd, add_le_lv_iff (ha.trans h) hle]
  exact ((add_le_lv_iff ha hle).mp hd.ge).trans (pow_le_pow_left₀ (Nat.zero_le a) h 2000)

theorem lv_mono {a b : Int} (h : a ≤ b) : lv a ≤ lv b := by
  rcases lt_or_ge a 1 with ha | ha
  · exact (lv_of_lt_one ha).trans_le (le_lv b)
  · lift a to Nat using by omega
    lift b to Nat using by omega
    exact lv_mono_of_one_le (by omega) (by omega)

/-! ### There and back -/

/-- The ratio of a number's successor to it falls, so a bound on its power at one number holds from there on. -/
theorem succ_pow_lt_of_le {a b c k : Nat} (ha : 0 < a) (hab : a ≤ b) (h : (a + 1) ^ k < c * a ^ k) : (b + 1) ^ k < c * b ^ k := by
  have hratio : (b + 1) * a ≤ (a + 1) * b := by linarith [Nat.add_le_add_left hab (a * b)]
  refine Nat.lt_of_mul_lt_mul_right (a := a ^ k) ?_
  calc (b + 1) ^ k * a ^ k = ((b + 1) * a) ^ k := (mul_pow ..).symm
    _ ≤ ((a + 1) * b) ^ k := Nat.pow_le_pow_left hratio k
    _ = (a + 1) ^ k * b ^ k := mul_pow ..
    _ < c * a ^ k * b ^ k := Nat.mul_lt_mul_of_pos_right h (Nat.pow_pos (ha.trans_le hab))
    _ = c * b ^ k * a ^ k := by ring

theorem sq_scaledPower (k x : Nat) : (2 ^ k * 10 ^ x) ^ 2 = 2 ^ (2 * k) * 10 ^ (2 * x) := by
  rw [mul_pow, ← pow_mul, ← pow_mul, Nat.mul_comm k, Nat.mul_comm x]

/-- Where the step from `2n − 1` to `2n` is less than `e` codes and a half, rounding to the power `n` lifts the level by less. -/
theorem power_pow_lt {k m n x e : Nat} (hm : m = 2 * k) (hstep : (2 * n) ^ m < 10 ^ (2 * e + 1) * (2 * n - 1) ^ m)
    (hlow : (2 * n - 1) ^ k ≤ 2 ^ k * 10 ^ x) : n ^ m < 10 ^ (2 * (x + e + 1) - 1) := by
  subst hm
  refine Nat.lt_of_mul_lt_mul_left (a := 2 ^ (2 * k)) ?_
  calc 2 ^ (2 * k) * n ^ (2 * k) = (2 * n) ^ (2 * k) := (mul_pow ..).symm
    _ < 10 ^ (2 * e + 1) * (2 * n - 1) ^ (2 * k) := hstep
    _ = 10 ^ (2 * e + 1) * ((2 * n - 1) ^ k) ^ 2 := by rw [← pow_mul, Nat.mul_comm k]
    _ ≤ 10 ^ (2 * e + 1) * (2 ^ k * 10 ^ x) ^ 2 := Nat.mul_le_mul_left _ (Nat.pow_le_pow_left hlow 2)
    _ = 2 ^ (2 * k) * (10 ^ (2 * e + 1) * 10 ^ (2 * x)) := by rw [sq_scaledPower, Nat.mul_left_comm]
    _ = 2 ^ (2 * k) * 10 ^ (2 * (x + e + 1) - 1) := by
      rw [← pow_add, show 2 * e + 1 + 2 * x = 2 * (x + e + 1) - 1 by omega]

/-- Where the step from `2n` to `2n + 1` is less than `e` codes and a half, rounding to the power `n` lowers the level by less. -/
theorem pow_le_power_pow {k m n x e : Nat} (hm : m = 2 * k) (hstep : (2 * n + 1) ^ m < 10 ^ (2 * e + 1) * (2 * n) ^ m)
    (hhigh : 2 ^ k * 10 ^ x < (2 * n + 1) ^ k) (he : e < x) : 10 ^ (2 * (x - e) - 1) ≤ n ^ m := by
  subst hm
  refine Nat.le_of_mul_le_mul_left (c := 2 ^ (2 * k) * 10 ^ (2 * e + 1)) ?_ (by positivity)
  calc 2 ^ (2 * k) * 10 ^ (2 * e + 1) * 10 ^ (2 * (x - e) - 1) = 2 ^ (2 * k) * 10 ^ (2 * x) := by
        rw [Nat.mul_assoc, ← pow_add, show 2 * e + 1 + (2 * (x - e) - 1) = 2 * x by omega]
    _ = (2 ^ k * 10 ^ x) ^ 2 := (sq_scaledPower k x).symm
    _ ≤ ((2 * n + 1) ^ k) ^ 2 := Nat.pow_le_pow_left hhigh.le 2
    _ = (2 * n + 1) ^ (2 * k) := by rw [← pow_mul, Nat.mul_comm k]
    _ ≤ 10 ^ (2 * e + 1) * (2 * n) ^ (2 * k) := hstep.le
    _ = 2 ^ (2 * k) * 10 ^ (2 * e + 1) * n ^ (2 * k) := by rw [mul_pow, ← Nat.mul_assoc, Nat.mul_comm (2 ^ (2 * k))]

theorem aboveThirty_add {x : Nat} (hx : x ≤ 10000) : aboveThirty (3000 + x : Nat) = x := by
  unfold aboveThirty
  omega

/-- R7's argument, for a tolerance of `e` codes: from a power on at which half a power unit, the step from `a` to `a + 1` of
twice the power, moves the level by less than `e` codes and a half, a code returns within `e` codes. -/
theorem lv_p_within {a e l : Nat} (hl : 3000 ≤ l) (hl' : l ≤ 13000) (ha : 0 < a) (hap : a + 1 ≤ 2 * p l)
    (hstep : (a + 1) ^ 2000 < 10 ^ (2 * e + 1) * a ^ 2000) : lv (p l) ≤ l + e ∧ l ≤ lv (p l) + e := by
  obtain ⟨x, rfl⟩ := Nat.exists_eq_add_of_le hl
  have hx : x ≤ 10000 := by omega
  have hlow := (le_p_iff (3000 + x : Nat) _).mp le_rfl
  have hhigh := scaledPower_lt (3000 + x : Nat)
  have hone := one_le_p (3000 + x : Nat)
  rw [aboveThirty_add hx] at hlow hhigh
  generalize p (3000 + x : Nat) = n at *
  have hbelow : (2 * n) ^ 2000 < 10 ^ (2 * e + 1) * (2 * n - 1) ^ 2000 := by
    have h := succ_pow_lt_of_le (b := 2 * n - 1) ha (by omega) hstep
    rwa [Nat.sub_add_cancel (by omega)] at h
  have habove : (2 * n + 1) ^ 2000 < 10 ^ (2 * e + 1) * (2 * n) ^ 2000 := succ_pow_lt_of_le ha (by omega) hstep
  have htop := lv_le hone
  have hbottom := le_lv n
  constructor
  · by_contra hlt
    have hreach := (add_le_lv_iff (d := x + e + 1) hone (by omega)).mp (by omega)
    exact absurd hreach (not_le.mpr (power_pow_lt (by norm_num) hbelow hlow))
  · rcases Nat.lt_or_ge e x with he | he
    · have hreach := (add_le_lv_iff hone (by omega)).mpr (pow_le_power_pow (by norm_num) habove hhigh he)
      omega
    · omega

/-! ### The ends of R7's ranges -/

theorem p_3176 : p 3176 = 1 := by decide +kernel
theorem p_3177 : p 3177 = 2 := by decide +kernel
theorem p_5200 : p 5200 = 158 := by decide +kernel
theorem p_5700 : p 5700 = 501 := by decide +kernel
theorem lv_one : lv 1 = 3000 := by decide +kernel
theorem lv_two : lv 2 = 3301 := by decide +kernel

/-- From the power 501 on, half a power unit is less than half a code. -/
theorem half_unit_from_501 : (1001 + 1) ^ 2000 < 10 ^ (2 * 0 + 1) * 1001 ^ 2000 := by decide +kernel

/-- From the power 158 on, half a power unit is less than a code and a half. -/
theorem half_unit_from_158 : (315 + 1) ^ 2000 < 10 ^ (2 * 1 + 1) * 315 ^ 2000 := by decide +kernel

/-- From the power 2 on, half a power unit is less than 176 codes and a half. -/
theorem half_unit_from_2 : (3 + 1) ^ 2000 < 10 ^ (2 * 176 + 1) * 3 ^ 2000 := by decide +kernel

/-- The codes of power 1 return as 3000, at most 176 below them. -/
theorem lv_p_of_le_3176 {l : Nat} (h : l ≤ 3176) : lv (p l) = 3000 := by
  have hle : p l ≤ p 3176 := p_mono (by omega)
  have hp : p l = 1 := le_antisymm (hle.trans_eq p_3176) (one_le_p l)
  rw [hp]
  exact lv_one

theorem le_p_of_le {c l n : Nat} (hp : p c = n) (h : c ≤ l) : n ≤ p l :=
  hp.ge.trans (p_mono (Int.ofNat_le.mpr h))

/-! ### The statements -/

/-- Settles O3: each clause is read off the threshold law of `p`. -/
theorem powerIsRoundedHalfUp : Obligations.PowerIsRoundedHalfUp := by
  refine ⟨fun l x hx => ?_, fun l => ⟨one_le_p l, p_le l⟩, fun a b => p_mono⟩
  obtain rfl : x = aboveThirty l := by
    unfold aboveThirty
    omega
  exact ⟨(le_p_iff l (p l)).mp le_rfl, scaledPower_lt l⟩

/-- Settles O4: the code is reached, and the next one is not, by the threshold law of `lv`. -/
theorem levelIsRoundedHalfUp : Obligations.LevelIsRoundedHalfUp := by
  refine ⟨fun x => lv_of_lt_one, fun x hx => ⟨le_lv x, lv_le hx, Or.inr ?_, ?_⟩, fun a b => lv_mono⟩
  · have hbottom := le_lv x
    have htop := lv_le hx
    exact (add_le_lv_iff hx (by omega)).mp (by omega)
  · rcases (lv_le hx).eq_or_lt with htop | hlt
    · exact Or.inl htop
    · have hbottom := le_lv x
      exact Or.inr (not_le.mp fun h => absurd ((add_le_lv_iff hx (by omega)).mpr h) (by omega))

/-- Settles O5: the three ranges by `lv_p_within` from the powers 501, 158 and 2 on, and the codes of power 1 by themselves. -/
theorem levelReturnsThroughPower : Obligations.LevelReturnsThroughPower := by
  refine ⟨fun l hl hl' => ?_, fun l hl hl' => ?_, fun l hl hl' => ?_, p_3176, lv_one, p_3177, lv_two⟩
  · have hp : 501 ≤ p l := le_p_of_le p_5700 hl
    obtain ⟨hle, hge⟩ := lv_p_within (e := 0) (by omega) hl' (by norm_num) (by omega) half_unit_from_501
    omega
  · have hp : 158 ≤ p l := le_p_of_le p_5200 hl
    exact lv_p_within (by omega) (by omega) (by norm_num) (by omega) half_unit_from_158
  · rcases Nat.lt_or_ge 3176 l with h | h
    · have hp : 2 ≤ p l := le_p_of_le p_3177 h
      exact lv_p_within hl (by omega) (by norm_num) (by omega) half_unit_from_2
    · rw [lv_p_of_le_3176 h]
      omega

end Sys2Proof.Proofs.Levels
end

section
/-!
What a step can do to the schedules held, the clock, the pending list, the session and the survey (04_limit_schedule_clock_and_curfew.md,
05_coupling_table_and_survey.md). Nearly every event leaves each of them as it was or as a reset gives it: `Recedes`. The five ways in
which something new comes are the other constructors of `ScheduleMove`. `step_moves` says once that a step is made of such moves, and
each invariant of the family is then one case analysis of a move.
-/

namespace Sys2Proof.Proofs.ScheduleMoves

open Sys2Proof Sys2Proof.Machine

/-! ### The moves -/

/-- From `s` to `t` nothing new comes: each schedule held, the clock, the pending list, the session and the survey's run are those of
`s`, or as a reset gives them. -/
structure Recedes (s t : State) : Prop where
  schedules : ∀ g ∈ t.settingsHeld,
    g.schedule = Settings.factory.schedule ∨ ∃ h ∈ s.settingsHeld, g.schedule = h.schedule
  clock : t.su.clock = s.su.clock ∨ t.su.clock = Time.atPowerUp
  pendingList : t.su.pendingList = s.su.pendingList ∨ t.su.pendingList = []
  session : t.su.session = s.su.session ∨ t.su.session = none
  running : t.cs.running = true → s.cs.running = true

/-- What a step is made of: a part that brings nothing new, or one of the five that do. -/
inductive ScheduleMove : State → State → Prop
  | recede {s t : State} (h : Recedes s t) : ScheduleMove s t
  /-- The clock advances or is set (R63, R64). -/
  | setClock (s : State) (c : Time) (h : c = s.su.clock.advance ∨ ∃ params, readTime params = some c) :
      ScheduleMove s { s with su := { s.su with clock := c } }
  /-- A period is written into the pending list (R75). -/
  | writePeriod (s : State) (i : Nat) (q : Period) (hle : i ≤ s.su.pendingList.length) (hi : i < 16) :
      ScheduleMove s { s with su := { s.su with pendingList := writePeriod s.su.pendingList i q } }
  /-- The pending schedule passes its check and is adopted (R78, R79). -/
  | adoptSchedule (s : State) (h : checkSchedule s.su.pendingList s.su.pendingAllowance = none) :
      ScheduleMove s { s with settings := { s.settings with schedule := s.su.pendingList } }
  /-- A session opens outside a survey (R82, R83). -/
  | openSession (s : State) (q : Session) (h : s.cs.running = false) :
      ScheduleMove s { s with su := { s.su with session := some q } }
  /-- A survey starts outside a session (R95). -/
  | startSurvey (s : State) (v : Survey) (h : s.su.session = none) : ScheduleMove s { s with cs := v }

/-- One move after another. -/
abbrev Moves : State → State → Prop := Relation.ReflTransGen ScheduleMove

/-- An owner answers every request by moves. -/
def OwnerMoves (owner : Owner) : Prop := ∀ k params s, Moves s (owner k params s).1

@[refl] theorem Recedes.refl (s : State) : Recedes s s :=
  ⟨fun g hg => .inr ⟨g, hg, rfl⟩, .inl rfl, .inl rfl, .inl rfl, id⟩

@[trans] theorem Recedes.trans {s m t : State} (h : Recedes s m) (k : Recedes m t) : Recedes s t where
  schedules g hg := by
    rcases k.schedules g hg with e | ⟨x, hx, e⟩
    · exact .inl e
    · rw [e]
      exact h.schedules x hx
  clock := k.clock.elim (fun e => e ▸ h.clock) .inr
  pendingList := k.pendingList.elim (fun e => e ▸ h.pendingList) .inr
  session := k.session.elim (fun e => e ▸ h.session) .inr
  running := h.running ∘ k.running

/-- The same schedules held, and for the rest what a reset may give. -/
theorem Recedes.of_settings {s t : State} (hg : t.settingsHeld = s.settingsHeld)
    (clock : t.su.clock = s.su.clock ∨ t.su.clock = Time.atPowerUp)
    (pendingList : t.su.pendingList = s.su.pendingList ∨ t.su.pendingList = [])
    (session : t.su.session = s.su.session ∨ t.su.session = none) (running : t.cs.running = true → s.cs.running = true) :
    Recedes s t :=
  ⟨fun g h => .inr ⟨g, hg ▸ h, rfl⟩, clock, pendingList, session, running⟩

/-- The same schedules, store and schedule unit, and a survey that runs only where it did. -/
theorem Recedes.of_survey {s t : State} (hg : t.settings.schedule = s.settings.schedule) (hst : t.st = s.st) (hsu : t.su = s.su)
    (hcs : t.cs.running = true → s.cs.running = true) : Recedes s t where
  schedules g hm := by
    simp only [State.settingsHeld, hst, List.mem_cons] at hm ⊢
    rcases hm with rfl | hm
    · exact .inr ⟨s.settings, .inl rfl, hg⟩
    · exact .inr ⟨g, .inr hm, rfl⟩
  clock := .inl (by rw [hsu])
  pendingList := .inl (by rw [hsu])
  session := .inl (by rw [hsu])
  running := hcs

/-- The same schedules, store, schedule unit and survey. -/
theorem Recedes.of_frame {s t : State} (hg : t.settings.schedule = s.settings.schedule) (hst : t.st = s.st) (hsu : t.su = s.su)
    (hcs : t.cs = s.cs) : Recedes s t :=
  .of_survey hg hst hsu (hcs ▸ id)

/-- Several operations in order, each bringing nothing new. -/
theorem Recedes.foldl {α : Type} {f : State → α → State} (hf : ∀ s a, Recedes s (f s a)) (l : List α) (s : State) :
    Recedes s (l.foldl f s) := by
  induction l generalizing s with
  | nil => exact .refl s
  | cons a l ih => exact (hf s a).trans (ih (f s a))

theorem Recedes.ite {s : State} {c : Prop} [Decidable c] {a b : State} (ha : c → Recedes s a) (hb : ¬ c → Recedes s b) :
    Recedes s (if c then a else b) := by
  split
  case isTrue h => exact ha h
  case isFalse h => exact hb h

theorem Recedes.moves {s t : State} (h : Recedes s t) : Moves s t := .single (.recede h)

theorem ScheduleMove.moves {s t : State} (h : ScheduleMove s t) : Moves s t := .single h

/-- Where a guard may turn the request down, only what the owner does past it counts. -/
theorem Moves.guard {s : State} {c : Prop} [Decidable c] {st : Status} {a : State × Response} (h : ¬ c → Moves s a.1) :
    Moves s (if c then turnDown st s else a).1 := by
  split
  case isTrue => exact .refl
  case isFalse hc => exact h hc

/-! ### Records and notices -/

theorem post_recedes (n : Notice) (s : State) : Recedes s (post n s) := .of_frame rfl rfl rfl rfl

theorem offer_recedes (b : RecordBody) (s : State) : Recedes s (offer b s) := .of_frame (by simp) (by simp) (by simp) (by simp)

theorem report_recedes (r : Report) (s : State) : Recedes s (report r s) := .of_frame (by simp) (by simp) (by simp) (by simp)

theorem reportAll_recedes (rs : List Report) (s : State) : Recedes s (reportAll rs s) :=
  .of_frame (by simp) (by simp) (by simp) (by simp)

theorem reportEither_recedes (as bs : List Report) (s : State) : Recedes s (reportEither as bs s) :=
  .of_frame (by simp) (by simp) (by simp) (by simp)

theorem offerAllQuiet_recedes (bs : List RecordBody) (s : State) : Recedes s (offerAllQuiet bs s) :=
  .of_frame (by simp) (by simp) (by simp) (by simp)

/-- A state that brings nothing new, and then reports. -/
theorem Recedes.report {s t : State} (h : Recedes s t) (r : Report) : Recedes s (report r t) := h.trans (report_recedes r t)

theorem Recedes.reportAll {s t : State} (h : Recedes s t) (rs : List Report) : Recedes s (reportAll rs t) :=
  h.trans (reportAll_recedes rs t)

theorem Recedes.reportEither {s t : State} (h : Recedes s t) (as bs : List Report) : Recedes s (reportEither as bs t) :=
  h.trans (reportEither_recedes as bs t)

/-! ### The survey (R96 to R105) -/

theorem abandonSurvey_recedes (why : SurveyReason) (s : State) : Recedes s (abandonSurvey why s) :=
  .of_survey rfl rfl rfl (by simp [abandonSurvey, Survey.running])

theorem surveyLosesReference_recedes (u : StageId) (s : State) : Recedes s (surveyLosesReference u s) :=
  .ite (fun _ => abandonSurvey_recedes _ s) fun _ => .refl s

/-- A snapshot starts no survey: one that runs after it ran before. -/
theorem surveySnapshot_running (snap : Snapshot) (s : State) (h : (surveySnapshot snap s).cs.running = true) :
    s.cs.running = true := by
  unfold surveySnapshot at h
  split at h
  case h_1 hq => simp [Survey.running, hq]
  case h_2 hq => simp [Survey.running, hq]
  case h_3 => exact h

theorem surveySnapshot_recedes (snap : Snapshot) (s : State) : Recedes s (surveySnapshot snap s) :=
  .of_survey (by simp) (by simp) (by simp) (surveySnapshot_running snap s)

/-! ### The engine -/

theorem startWaiting_recedes (s : State) : Recedes s (startWaiting s) := by
  rcases startWaiting_cases s with ⟨snap, _, _, h⟩ | ⟨_, h⟩
  · rw [h]
    exact .of_frame (by simp) (by simp) (by simp) (by simp)
  · rw [h]

theorem idle_recedes (s : State) : Recedes s (idle s) := .ite (fun _ => startWaiting_recedes s) fun _ => .refl s

theorem handOver_recedes (snap : Snapshot) (s : State) : Recedes s (handOver snap s) := by
  have hand : Recedes s { s with ae := { s.ae with handed := some snap }, draws := s.draws + 1 } := .of_frame rfl rfl rfl rfl
  rcases handOver_cases s snap with h | h | h <;> rw [h]
  · exact (hand.trans (startWaiting_recedes _)).trans (surveySnapshot_recedes snap _)
  · exact (hand.trans (surveySnapshot_recedes snap _)).trans (startWaiting_recedes _)
  · exact hand.trans (surveySnapshot_recedes snap _)

/-! ### The sensor ports and the map (R15 to R32) -/

theorem setChannel_recedes (c : ChannelId) (x : Channel) (s : State) : Recedes s (s.setChannel c x) := .of_frame rfl rfl rfl rfl

theorem setSource_recedes (k : PointId) (s : State) : Recedes s (setSource k s) := .of_frame rfl rfl rfl rfl

theorem reselect_recedes (k : PointId) (s : State) : Recedes s (reselect k s) := (setSource_recedes k s).reportAll _

theorem reevaluate_recedes (u : StageId) (s : State) : Recedes s (reevaluate u s) := by
  have seen : Recedes s (s.setRef u { s.pm.refs.get u with seeing := s.isLive (s.settings.holder (.reference u)) }) :=
    .of_frame rfl rfl rfl rfl
  exact .ite (fun _ => seen) fun _ => seen.trans (surveyLosesReference_recedes u _)

theorem followBinding_recedes (b : Binding) (s : State) : Recedes s (followBinding b s) := by
  cases b with
  | unused => exact .refl s
  | primary k => exact reselect_recedes k s
  | standby k => exact reselect_recedes k s
  | reference u => exact reevaluate_recedes u s

theorem enterFailed_recedes (c : ChannelId) (x : Channel) (s : State) : Recedes s (enterFailed c x s) :=
  ((setChannel_recedes c x s).report _).trans (followBinding_recedes _ _)

theorem enterQuietly_recedes (c : ChannelId) (x : Channel) (s : State) : Recedes s (enterQuietly c x s) :=
  (setChannel_recedes c x s).trans (followBinding_recedes _ _)

theorem badFrame_recedes (c : ChannelId) (s : State) : Recedes s (badFrame c s) :=
  .ite (fun _ => enterFailed_recedes c _ s) fun _ => setChannel_recedes c _ s

theorem goodFrame_recedes (c : ChannelId) (f : HeadFrame) (s : State) : Recedes s (goodFrame c f s) := by
  refine .ite (fun _ => enterFailed_recedes c _ s) fun _ => .ite (fun _ => enterQuietly_recedes c _ s) fun _ => ?_
  split
  · exact .ite (fun _ => enterQuietly_recedes c _ s) fun _ => setChannel_recedes c _ s
  · exact setChannel_recedes c _ s
  · exact enterQuietly_recedes c _ s

theorem receivedFrame_recedes (c : ChannelId) (f : HeadFrame) (s : State) : Recedes s (receivedFrame c f s) := by
  unfold receivedFrame
  dsimp only
  split
  · exact .refl s
  · exact .refl s
  · have named := setChannel_recedes c { s.sp.get c with accepted := f.identity } s
    exact .ite (fun _ => enterFailed_recedes c _ s) fun _ => .ite (fun _ => named) fun _ => named.trans (goodFrame_recedes c f _)

theorem frameArrival_recedes (c : ChannelId) (cand : List RxChar) (s : State) : Recedes s (frameArrival c cand s) := by
  refine .ite (fun _ => .refl s) fun _ => ?_
  split
  · exact badFrame_recedes c s
  · exact receivedFrame_recedes c _ s

theorem silenceTimerExpiry_recedes (c : ChannelId) (s : State) : Recedes s (silenceTimerExpiry c s) :=
  .ite (fun _ => .refl s) fun _ => .ite (fun _ => enterFailed_recedes c _ s) fun _ => setChannel_recedes c _ s

theorem rebindReference_recedes (old : Settings) (u : StageId) (s : State) : Recedes s (rebindReference old u s) := by
  refine .trans (m := if old.holder (.reference u) = s.settings.holder (.reference u) then s
    else s.setRef u { s.pm.refs.get u with held := 1 }) ?_ (reevaluate_recedes u _)
  exact .ite (fun _ => .refl s) fun _ => .of_frame rfl rfl rfl rfl

theorem bindChannel_recedes (c : ChannelId) (e : MapEntry) (s : State) : Recedes s (bindChannel c e s) := by
  refine .trans ?_ (Recedes.foldl (fun s' u => rebindReference_recedes s.settings u s') _ _)
  refine .reportEither (.trans ?_ (Recedes.foldl (fun s' k => setSource_recedes k s') _ _)) _ _
  exact .of_frame rfl rfl rfl rfl

/-! ### The frame boundary (R38) -/

theorem takePointFrame_recedes (k : PointId) (s : State) : Recedes s (takePointFrame k s) := by
  refine .ite (fun _ => .refl s) fun _ => .reportAll ?_ _
  exact .of_frame rfl rfl rfl rfl

theorem takeStageFrame_recedes (u : StageId) (s : State) : Recedes s (takeStageFrame u s) := by
  unfold takeStageFrame
  split
  · exact .refl s
  · exact .of_frame rfl rfl rfl rfl

theorem emptySlots_recedes (s : State) : Recedes s (emptySlots s) := .of_frame rfl rfl rfl rfl

theorem frameWork_recedes (s : State) : Recedes s (frameWork s) := by
  refine .trans ?_ (emptySlots_recedes _)
  exact (Recedes.foldl (fun s k => takePointFrame_recedes k s) allPoints s).trans
    (Recedes.foldl (fun s u => takeStageFrame_recedes u s) allStages _)

theorem closeSession_recedes (q : Session) (k : SlotId) (why : CloseCause) (s : State) : Recedes s (closeSession q k why s) := by
  refine .reportAll ?_ _
  exact .of_settings rfl (.inl rfl) (.inl rfl) (.inr rfl) id

theorem sessionCount_recedes (s : State) : Recedes s (sessionCount s) := by
  unfold sessionCount
  split
  · exact .refl s
  · have counted : Recedes s { s with ei := { s.ei with sessionFrames := s.ei.sessionFrames - 1 } } := .of_frame rfl rfl rfl rfl
    exact .ite (fun _ => counted.trans (closeSession_recedes ..)) fun _ => counted

theorem boundaryFrames_recedes (s : State) : Recedes s (boundaryFrames s) := by
  have phased : Recedes s { s with ei := { s.ei with phase := nextPhase s.ei.phase } } := .of_frame rfl rfl rfl rfl
  exact (phased.trans (frameWork_recedes _)).trans (sessionCount_recedes _)

theorem takeWindowTest_recedes (k : PointId) (s : State) : Recedes s (takeWindowTest k s) := by
  unfold takeWindowTest
  split
  · refine .reportAll ?_ _
    exact .of_frame rfl rfl rfl rfl
  · exact .refl s

theorem minuteWork_recedes (s : State) : Recedes s (minuteWork s) := by
  refine .trans ?_ (Recedes.foldl (fun s k => takeWindowTest_recedes k s) allPoints _)
  exact .of_frame rfl rfl rfl rfl

theorem intervalWork_recedes (s : State) : Recedes s (intervalWork s) := by
  refine .reportAll ?_ _
  exact .of_frame rfl rfl rfl rfl

theorem closeWork_recedes (s : State) : Recedes s (closeWork s) := by
  have second : Recedes s (if isSecondClose s.ei.phase then secondMeans s else s) :=
    .ite (fun _ => .of_frame rfl rfl rfl rfl) fun _ => .refl s
  have minute := second.trans (.ite (c := isMinuteClose s.ei.phase) (fun _ => minuteWork_recedes _) fun _ => .refl _)
  exact minute.trans (.ite (fun _ => intervalWork_recedes _) fun _ => .refl _)

theorem boundaryCloses_recedes (s : State) : Recedes s (boundaryCloses s) := by
  rcases boundaryCloses_cases s with h | h <;> rw [h]
  · exact closeWork_recedes s
  · exact (closeWork_recedes s).trans (handOver_recedes _ _)

theorem frameBoundary_recedes (s : State) : Recedes s (frameBoundary s) :=
  (boundaryFrames_recedes s).trans (boundaryCloses_recedes _)

theorem boundaryIf_recedes (due : Bool) (s : State) : Recedes s (boundaryIf due s) :=
  .ite (fun _ => frameBoundary_recedes s) fun _ => .refl s

/-! ### The grant unit -/

theorem setGrant_recedes (u : StageId) (g : Grant) (s : State) : Recedes s (s.setGrant u g) := .of_frame rfl rfl rfl rfl

theorem postLowered_recedes (u : StageId) (g : Grant) (due : Bool) (s : State) : Recedes s (postLowered u g due s) :=
  .ite (fun _ => post_recedes _ s) fun _ => .refl s

theorem takeStage_recedes (r : PassOutcome) (u : StageId) (s : State) : Recedes s (takeStage r u s) := by
  unfold takeStage
  split
  · exact .refl s
  · refine .ite (fun _ => .trans ?_ (postLowered_recedes ..)) fun _ => .refl s
    exact (setGrant_recedes u _ s).trans (.ite (fun _ => report_recedes _ _) fun _ => .refl _)

theorem passResult_recedes (s : State) : Recedes s (passResult s) := by
  refine (startWaiting_recedes s).trans ?_
  unfold passResult
  dsimp only
  split
  · exact .refl _
  · exact (Recedes.foldl (fun s u => takeStage_recedes _ u s) _ _).trans (.of_frame rfl rfl rfl rfl)

theorem complianceTimerExpiry_recedes (u : StageId) (s : State) : Recedes s (complianceTimerExpiry u s) :=
  .ite (fun _ => (setGrant_recedes u _ s).report _) fun _ => .refl s

theorem holdMinimumExpiry_recedes (u : StageId) (s : State) : Recedes s (holdMinimumExpiry u s) := by
  refine .ite (fun _ => .ite (fun _ => ?_) fun _ => ?_) fun _ => .refl s
  · exact setGrant_recedes u _ s
  · exact (setGrant_recedes u _ s).report _

theorem regrant_recedes (u : StageId) (old new : StageSettings) (s : State) : Recedes s (regrant u old new s) := by
  unfold regrant
  dsimp only
  split
  · exact (setGrant_recedes u _ s).report _
  · exact .ite (fun _ => (setGrant_recedes u _ s).report _) fun _ => setGrant_recedes u _ s
  · exact setGrant_recedes u _ s
  · exact (setGrant_recedes u _ s).trans (postLowered_recedes ..)

theorem writeStage_recedes (u : StageId) (new : StageSettings) (s : State) : Recedes s (writeStage u new s) := by
  refine .trans (.trans ?_ (.ite (fun _ => abandonSurvey_recedes _ _) fun _ => .refl _)) (regrant_recedes u _ new _)
  exact .of_frame rfl rfl rfl rfl

/-! ### The link -/

theorem freeLink_recedes (s : State) : Recedes s (freeLink s) := .of_frame rfl rfl rfl rfl

theorem setArb_recedes (k : SlotId) (x : ArbSlot) (s : State) : Recedes s (s.setArb k x) := .of_frame rfl rfl rfl rfl

theorem respond_recedes (k : SlotId) (r : Response) (s : State) : Recedes s (respond k r s) := .of_frame rfl rfl rfl rfl

theorem frameTurn_recedes {s u : State} {k : SlotId} (h : frameTurn s = some (k, u)) : Recedes s u := by
  rcases frameTurn_cases h with ⟨_, _, rfl⟩ | ⟨_, rfl⟩
  · exact .refl _
  · exact .of_frame rfl rfl rfl rfl

theorem countMiss_recedes (k : SlotId) (s : State) : Recedes s (countMiss k s) :=
  .ite (fun _ => (setArb_recedes k _ s).report _) fun _ => setArb_recedes k _ s

theorem missFree_recedes (s : State) : Recedes s (missFree s) := by
  unfold missFree
  split
  · exact .refl s
  case h_2 k u h => exact ((frameTurn_recedes h).trans (countMiss_recedes k u)).trans (freeLink_recedes _)

theorem missClearing_recedes (s : State) : Recedes s (missClearing s) := by
  unfold missClearing
  split
  · exact .refl s
  case h_2 k u h => exact ((frameTurn_recedes h).trans (countMiss_recedes k u)).trans (.of_frame rfl rfl rfl rfl)

theorem requestLineAsserted_recedes (k : SlotId) (s : State) : Recedes s (requestLineAsserted k s) :=
  .ite (fun _ => (setArb_recedes k _ s).trans (freeLink_recedes _)) fun _ => setArb_recedes k _ s

theorem parkedFrameStart_recedes (s : State) : Recedes s (parkedFrameStart s) := by
  unfold parkedFrameStart
  split
  · exact .of_frame rfl rfl rfl rfl
  · exact .refl s

theorem grantWindowExpiry_recedes (s : State) : Recedes s (grantWindowExpiry s) := by
  unfold grantWindowExpiry
  split
  · exact missFree_recedes s
  · exact .refl s

theorem frameLengthExcess_recedes (length : Byte) (s : State) : Recedes s (frameLengthExcess length s) :=
  .ite (fun _ => missClearing_recedes s) fun _ => .refl s

theorem badFrameEnd_recedes (chars : List RxChar) (s : State) : Recedes s (badFrameEnd chars s) := by
  unfold badFrameEnd
  split
  · exact .refl s
  · exact .ite (fun _ => missFree_recedes s) fun _ => .refl s

theorem linkIdleGap_recedes (s : State) : Recedes s (linkIdleGap s) := by
  unfold linkIdleGap
  split
  · exact freeLink_recedes s
  · exact .refl s

/-! ### The store and the resets (R194 to R197) -/

theorem load_schedule (st : Store) : st.load.schedule = Settings.factory.schedule ∨ st.load.schedule = st.image.schedule := by
  rcases st.load_cases with ⟨_, h⟩ | ⟨_, h⟩ <;> rw [h]
  · exact .inr rfl
  · exact .inl rfl

/-- What a power-on reset or a loss of power leaves of the store is an image that was there or was being written. -/
theorem afterNpor_held (st : Store) (draws : Nat) :
    (st.afterNpor draws).1.image ∈ st.image :: st.saving.toList ∧ (st.afterNpor draws).1.saving = none := by
  rcases st.afterNpor_cases draws with ⟨hn, h⟩ | ⟨g, hg, h | h | h⟩
  · simp [h, hn]
  · simp [h]
  · simp [h, hg, Store.written]
  · simp [h, Store.torn]

theorem afterLoss_held (st : Store) (draws : Nat) :
    (st.afterLoss draws).1.image = st.image ∧ (st.afterLoss draws).1.saving = none := by
  unfold Store.afterLoss
  split
  · simp [Store.torn]
  · simp_all

/-- Every block afresh, with settings whose schedule is the factory's or that of the store's image, on a store that was held. -/
theorem afterPowerUp_recedes {s : State} {g : Settings} {st : Store} (lines : Bank 8 Bool) (draws : Nat) (queue : List Instr)
    (himage : st.image ∈ s.st.image :: s.st.saving.toList) (hsaving : st.saving = none)
    (hg : g.schedule = Settings.factory.schedule ∨ g.schedule = st.image.schedule) :
    Recedes s (State.afterPowerUp g lines st draws queue) where
  schedules x hx := by
    have held : st.image ∈ s.settingsHeld := List.mem_cons_of_mem _ himage
    simp only [State.settingsHeld, State.afterPowerUp, hsaving, Option.toList_none, List.mem_cons, List.not_mem_nil, or_false] at hx
    rcases hx with rfl | rfl
    · exact hg.imp_right fun e => ⟨st.image, held, e⟩
    · exact .inr ⟨st.image, held, rfl⟩
  clock := .inr rfl
  pendingList := .inr rfl
  session := .inr rfl
  running h := by simp [State.afterPowerUp, Survey.afterReset, Survey.running] at h

theorem judgeRing_recedes (before old : Nat) (s : State) : Recedes s (judgeRing before old s) :=
  .ite (fun _ => post_recedes _ s) fun _ => .refl s

theorem powerUp_recedes (s : State) : Recedes s (powerUp s) := by
  obtain ⟨himage, hsaving⟩ := afterNpor_held s.st s.draws
  have fresh := afterPowerUp_recedes (s.la.slots.renew fun _ x => x.line) (s.st.afterNpor s.draws).2 s.pending himage hsaving
    (load_schedule _)
  exact ((fresh.trans (offerAllQuiet_recedes _ _)).trans (judgeRing_recedes _ _ _)).trans (freeLink_recedes _)

theorem lossOfPower_recedes (s : State) : Recedes s (lossOfPower s) := by
  obtain ⟨himage, hsaving⟩ := afterLoss_held s.st s.draws
  have blank := afterPowerUp_recedes (s := s) (g := Settings.factory) (s.la.slots.renew fun _ x => x.line)
    (s.st.afterLoss s.draws).2 s.pending (by simp [himage]) hsaving (.inl rfl)
  exact blank.trans (.of_frame rfl rfl rfl rfl)

theorem saveCompletion_recedes (s : State) : Recedes s (saveCompletion s) := by
  unfold saveCompletion
  split
  · exact .refl s
  case h_2 g hg =>
    refine ⟨fun x hx => .inr ⟨x, ?_, rfl⟩, .inl rfl, .inl rfl, .inl rfl, id⟩
    simp only [State.settingsHeld, Store.written, hg, Option.toList_none, Option.toList_some, List.mem_cons, List.not_mem_nil,
      or_false] at hx ⊢
    exact hx.imp_right .inr

theorem recompute_recedes (s : State) : Recedes s (recompute s) := by
  refine .reportEither ?_ _ _
  exact .of_settings rfl (.inl rfl) (.inl rfl) (.inl rfl) id

theorem resetEnds_recedes (s : State) : Recedes s (resetEnds s) := by
  refine .trans ?_ (offerAllQuiet_recedes _ _)
  exact .of_settings rfl (.inl rfl) (.inl rfl) (.inr rfl) (by simp [clearSession, Survey.afterReset, Survey.running])

/-- The load puts the image, which was held, or the factory defaults into use. -/
theorem resetLoad_recedes (s : State) : Recedes s (resetLoad s) := by
  refine ⟨fun g hg => ?_, .inl (by simp [resetLoad]), .inl (by simp [resetLoad]), .inl (by simp [resetLoad]),
    by simp [resetLoad]⟩
  simp only [State.settingsHeld, resetLoad, State.withSettings_settings, State.withSettings_st, offerAllQuiet_st, offerQuiet_st,
    List.mem_cons] at hg
  rcases hg with rfl | hg
  · exact (load_schedule s.st).imp_right fun e => ⟨s.st.image, by simp [State.settingsHeld], e⟩
  · exact .inr ⟨g, List.mem_cons_of_mem _ (List.mem_cons.2 hg), rfl⟩

theorem resetBlocks_recedes (s : State) : Recedes s (resetBlocks s) := by
  refine ⟨fun g hg => .inr ⟨g, ?_, rfl⟩, .inl rfl, .inr rfl, .inl rfl, id⟩
  simp only [State.settingsHeld, resetBlocks, Option.toList_none, List.mem_cons, List.not_mem_nil, or_false] at hg ⊢
  exact hg.imp_right .inl

theorem resetHanded_recedes (s : State) : Recedes s (resetHanded s) := by
  unfold resetHanded
  split
  · exact .refl s
  · exact .of_frame rfl rfl rfl rfl

theorem adjustBuckets_recedes (s : State) : Recedes s (adjustBuckets s) := .of_frame rfl rfl rfl rfl

theorem commandReset_recedes (s : State) : Recedes s (commandReset s) := by
  have blocks := (((resetEnds_recedes s).trans (resetLoad_recedes _)).trans (resetBlocks_recedes _)).trans (resetHanded_recedes _)
  have limits := (blocks.trans (judgeRing_recedes s.rr.list.length s.settings.timing.threshold _)).trans (recompute_recedes _)
  exact ((limits.trans (adjustBuckets_recedes _)).reportAll _).trans (freeLink_recedes _)

theorem responseEnd_recedes (s : State) : Recedes s (responseEnd s) := by
  unfold responseEnd
  split
  · exact .ite (fun _ => commandReset_recedes s) fun _ => freeLink_recedes s
  · exact .refl s

/-! ### The clock's advance and the adoption (R63, R78, R79) -/

theorem adopt_moves (s : State) : Moves s (adopt s) := by
  unfold adopt
  dsimp only
  split
  case h_1 h =>
    refine (ScheduleMove.adoptSchedule s h).moves.trans (Recedes.report ?_ _).moves
    refine ⟨fun g hg => .inr ?_, .inl rfl, .inr rfl, .inl rfl, id⟩
    simp only [State.settingsHeld, List.mem_cons] at hg ⊢
    rcases hg with rfl | hg
    · exact ⟨_, .inl rfl, rfl⟩
    · exact ⟨g, .inr hg, rfl⟩
  case h_2 =>
    refine (Recedes.report ?_ _).moves
    exact .of_settings rfl (.inl rfl) (.inr rfl) (.inl rfl) id

theorem minuteBoundary_moves (s : State) : Moves s (minuteBoundary s) := by
  refine .trans ?_ (recompute_recedes _).moves
  split
  · exact adopt_moves s
  · exact .refl

theorem clockAdvance_moves (s : State) : Moves s (clockAdvance s) := by
  refine (ScheduleMove.setClock s s.su.clock.advance (.inl rfl)).moves.trans ?_
  unfold clockAdvance
  dsimp only
  split
  · exact minuteBoundary_moves _
  · exact .refl

theorem clockMinuteBoundary_moves (s : State) : Moves s (clockMinuteBoundary s) := by
  unfold clockMinuteBoundary
  split
  · exact clockAdvance_moves s
  · exact .refl

/-! ### The owners that bring something new -/

theorem ownerTimeSet_moves : OwnerMoves ownerTimeSet := by
  intro k params s
  unfold ownerTimeSet
  split
  · exact .refl
  case h_2 c hc =>
    exact (ScheduleMove.setClock s c (.inr ⟨params, hc⟩)).moves.trans ((report_recedes _ _).trans (recompute_recedes _)).moves

theorem ownerSchedWrite_moves : OwnerMoves ownerSchedWrite := by
  intro k params s
  unfold ownerSchedWrite
  split
  · exact .refl
  case h_2 i q _ => exact .guard fun hi => .guard fun _ => (ScheduleMove.writePeriod s i q (by omega) (by omega)).moves

theorem openSession_moves (k : SlotId) (endMinute fS : Nat) {s : State} (h : s.cs.running = false) :
    Moves s (openSession k endMinute fS s) := by
  refine (ScheduleMove.openSession s ⟨k, endMinute, fS, s.settings.allowance.ls⟩ h).moves.trans (Recedes.moves ?_)
  unfold openSession
  refine .report ?_ _
  exact .of_frame rfl rfl rfl rfl

theorem ownerSessionOpen_moves : OwnerMoves ownerSessionOpen := by
  intro k params s
  unfold ownerSessionOpen
  split
  · exact .refl
  · refine .guard fun _ => .guard fun _ => .guard fun hrun => .guard fun _ => .guard fun _ => .guard fun _ => ?_
    exact openSession_moves k _ _ (Bool.eq_false_iff.2 hrun)

theorem ownerSurveyStart_moves : OwnerMoves ownerSurveyStart := by
  intro k params s
  unfold ownerSurveyStart
  split
  · exact .refl
  · refine .guard fun _ => .guard fun hopen => .guard fun _ => .guard fun _ => .guard fun _ => ?_
    exact (ScheduleMove.startSurvey s _ (by simpa [State.sessionIsOpen] using hopen)).moves

/-! ### The owners that bring nothing new -/

theorem ownerSchedClear_moves : OwnerMoves ownerSchedClear := fun _ _ _ =>
  .guard fun _ => Recedes.moves (.of_settings rfl (.inl rfl) (.inr rfl) (.inl rfl) id)

theorem ownerSchedCommit_moves : OwnerMoves ownerSchedCommit := fun _ _ _ =>
  .guard fun _ => Recedes.moves (.of_settings rfl (.inl rfl) (.inl rfl) (.inl rfl) id)

theorem ownerSessionLimitWrite_moves : OwnerMoves ownerSessionLimitWrite := by
  intro k params s
  unfold ownerSessionLimitWrite
  split
  · exact .refl
  · exact .guard fun _ => Recedes.moves (.of_settings rfl (.inl rfl) (.inl rfl) (.inl rfl) id)

theorem ownerSessionClose_moves : OwnerMoves ownerSessionClose := by
  intro k params s
  unfold ownerSessionClose
  split
  · exact .refl
  · exact (closeSession_recedes ..).moves

theorem ownerFallbackWrite_moves : OwnerMoves ownerFallbackWrite := by
  intro k params s
  unfold ownerFallbackWrite
  split
  case h_1 => exact .refl
  case h_2 z _ =>
    have written : Recedes s (s.withSettings { s.settings with fallback := z }) := .of_frame rfl rfl rfl rfl
    exact .guard fun _ => (written.trans (.ite (fun _ => .refl _) fun _ => recompute_recedes _)).moves

/-- A save copies the settings in use. -/
theorem ownerStoreSave_moves : OwnerMoves ownerStoreSave := by
  intro k params s
  refine .guard fun _ => Recedes.moves ⟨fun g hg => .inr ⟨g, ?_, rfl⟩, .inl rfl, .inl rfl, .inl rfl, id⟩
  simp only [State.settingsHeld, ok, Option.toList_some, List.mem_cons, List.not_mem_nil, or_false] at hg ⊢
  rcases hg with h | h | h
  · exact .inl h
  · exact .inr (.inl h)
  · exact .inl h

theorem ownerReset_moves : OwnerMoves ownerReset := fun _ _ _ => .guard fun _ => Recedes.moves (.of_frame rfl rfl rfl rfl)

theorem ownerArbWrite_moves : OwnerMoves ownerArbWrite := by
  intro k params s
  unfold ownerArbWrite
  split
  · exact .refl
  · exact .guard fun _ => Recedes.moves (.of_frame rfl rfl rfl rfl)

theorem ownerArbClear_moves : OwnerMoves ownerArbClear := by
  intro k params s
  unfold ownerArbClear
  split
  · exact .refl
  · refine .guard fun _ => Recedes.moves ?_
    dsimp only [ok]
    exact .report (setArb_recedes ..) _

theorem ownerCouplingWrite_moves : OwnerMoves ownerCouplingWrite := by
  intro k params s
  unfold ownerCouplingWrite
  split
  · exact .refl
  · exact .guard fun _ => .guard fun _ => Recedes.moves (.of_frame rfl rfl rfl rfl)

theorem ownerSurveyAbort_moves : OwnerMoves ownerSurveyAbort := by
  intro k params s
  unfold ownerSurveyAbort
  split
  · exact (abandonSurvey_recedes _ s).moves
  · exact .refl

theorem ownerSurveyAccept_moves : OwnerMoves ownerSurveyAccept := by
  intro k params s
  refine .guard fun _ => .guard fun _ => .guard fun _ => Recedes.moves (.of_survey ?_ rfl rfl ?_)
  · dsimp only [ok]
    split <;> rfl
  · simp [ok, Survey.cleared, Survey.afterReset, Survey.running]

theorem ownerSurveyDiscard_moves : OwnerMoves ownerSurveyDiscard := by
  intro k params s
  unfold ownerSurveyDiscard
  split
  · exact Recedes.moves (.of_survey rfl rfl rfl (by simp [ok, Survey.cleared, Survey.afterReset, Survey.running]))
  · exact .refl

theorem ownerChannelBind_moves : OwnerMoves ownerChannelBind := by
  intro k params s
  unfold ownerChannelBind
  split
  · exact .refl
  · exact .guard fun _ => .guard fun _ => (bindChannel_recedes _ _ s).moves

theorem setSource_if_recedes (c : Prop) [Decidable c] (k : PointId) (s : State) : Recedes s (if c then s else setSource k s) :=
  .ite (fun _ => .refl s) fun _ => setSource_recedes k s

theorem writePoint_recedes (k : PointId) (q : PointSettings) (s : State) : Recedes s (writePoint k q s) := by
  have written : Recedes s { s with settings := { s.settings with points := s.settings.points.set k q } } := .of_frame rfl rfl rfl rfl
  refine .reportEither ((written.trans (setSource_if_recedes ((s.settings.points.get k).enabled = q.enabled) k _)).trans ?_) _ _
  exact .of_frame rfl rfl rfl rfl

theorem ownerPointWrite_moves : OwnerMoves ownerPointWrite := by
  intro k params s
  unfold ownerPointWrite
  split
  · exact .refl
  · exact .guard fun _ => .guard fun _ => (writePoint_recedes _ _ s).moves

theorem ownerStageWrite_moves : OwnerMoves ownerStageWrite := by
  intro k params s
  unfold ownerStageWrite
  split
  · exact .refl
  · exact .guard fun _ => .guard fun _ => .guard fun _ => (writeStage_recedes _ _ s).moves

theorem ownerShareWrite_moves : OwnerMoves ownerShareWrite := by
  intro k params s
  unfold ownerShareWrite
  split
  · exact .refl
  · exact .guard fun _ => .guard fun _ => Recedes.moves (.of_frame rfl rfl rfl rfl)

theorem ownerGrantAck_moves : OwnerMoves ownerGrantAck := by
  intro k params s
  unfold ownerGrantAck
  split
  · exact .refl
  · refine .guard fun _ => (Recedes.trans ?_ (postLowered_recedes ..)).moves
    split
    · exact setGrant_recedes _ _ s
    · exact (setGrant_recedes _ _ s).report _

theorem ownerHoldForce_moves : OwnerMoves ownerHoldForce := by
  intro k params s
  unfold ownerHoldForce
  split
  case h_1 => exact .refl
  case h_2 u _ =>
    exact ((setGrant_recedes u { s.gu.grants.get u with forced := true } s).trans
      (.ite (fun _ => .refl _) fun _ => report_recedes _ _)).moves

theorem ownerHoldUnforce_moves : OwnerMoves ownerHoldUnforce := by
  intro k params s
  unfold ownerHoldUnforce
  split
  case h_1 => exact .refl
  case h_2 u _ =>
    exact ((setGrant_recedes u { s.gu.grants.get u with forced := false } s).trans
      (.ite (fun _ => report_recedes _ _) fun _ => .refl _)).moves

theorem releaseRecords_recedes (n : Nat) (s : State) : Recedes s (releaseRecords n s) := by
  have dropped : Recedes s { s with rr := { s.rr with list := s.rr.list.drop n } } := .of_frame rfl rfl rfl rfl
  refine .ite (fun _ => dropped) fun _ => (dropped.trans (offer_recedes (.gap .ringFull s.rr.lost) _)).trans ?_
  exact .of_frame rfl rfl rfl rfl

theorem ownerRecordRelease_moves : OwnerMoves ownerRecordRelease := by
  intro k params s
  unfold ownerRecordRelease
  split
  · exact .refl
  · exact .guard fun _ => (releaseRecords_recedes _ s).moves

theorem ownerNoticeEnable_moves : OwnerMoves ownerNoticeEnable := by
  intro k params s
  unfold ownerNoticeEnable
  split
  · exact .refl
  · exact Recedes.moves (.of_frame rfl rfl rfl rfl)

theorem ownerDispatchWrite_moves : OwnerMoves ownerDispatchWrite := by
  intro k params s
  unfold ownerDispatchWrite
  split
  · exact .refl
  · exact .guard fun _ => Recedes.moves (.of_frame rfl rfl rfl rfl)

theorem writeStation_recedes (k : SlotId) (x : Station) (s : State) : Recedes s (writeStation k x s) :=
  .ite (fun _ => .of_frame rfl rfl rfl rfl) fun _ => .of_frame rfl rfl rfl rfl

theorem ownerRoleWrite_moves : OwnerMoves ownerRoleWrite := by
  intro k params s
  unfold ownerRoleWrite
  split
  · exact .refl
  · exact .guard fun _ => .guard fun _ => (writeStation_recedes _ _ s).moves

theorem writeTiming_recedes (g : Timing) (s : State) : Recedes s (writeTiming g s) := by
  have written : Recedes s (s.withSettings { s.settings with timing := g }) := .of_frame rfl rfl rfl rfl
  have adjusted := written.trans (.ite (c := g.depth = s.settings.timing.depth) (fun _ => .refl _) fun _ => adjustBuckets_recedes _)
  exact adjusted.trans (.ite (fun _ => post_recedes _ _) fun _ => .refl _)

theorem ownerTimingWrite_moves : OwnerMoves ownerTimingWrite := by
  intro k params s
  unfold ownerTimingWrite
  split
  · exact .refl
  · exact .guard fun _ => (writeTiming_recedes _ s).moves

/-! ### The reads -/

theorem ownerStatusRead_moves : OwnerMoves ownerStatusRead := fun _ _ _ => Recedes.moves (.of_frame rfl rfl rfl rfl)

theorem ownerSurveyRead_moves : OwnerMoves ownerSurveyRead := fun _ _ _ => .refl

theorem ownerLevelsRead_moves : OwnerMoves ownerLevelsRead := by
  intro k params s
  unfold ownerLevelsRead
  split <;> exact .refl

theorem ownerCouplingRead_moves : OwnerMoves ownerCouplingRead := by
  intro k params s
  unfold ownerCouplingRead
  split <;> exact .refl

theorem ownerSchedRead_moves : OwnerMoves ownerSchedRead := by
  intro k params s
  unfold ownerSchedRead
  split <;> exact .refl

theorem ownerRecordRead_moves : OwnerMoves ownerRecordRead := by
  intro k params s
  unfold ownerRecordRead
  split <;> exact .refl

theorem ownerGrantQuery_moves : OwnerMoves ownerGrantQuery := by
  intro k params s
  unfold ownerGrantQuery
  split <;> exact .refl

/-! ### A request, a command, a step -/

/-- Steps 2 to 5 of R188 do what the owner does, or nothing. -/
theorem judge_moves {owner : Owner} (h : OwnerMoves owner) (k : SlotId) (req : Option Request) (allowed : Request → Bool)
    (params : List Byte) (s : State) : Moves s (judge k req allowed owner params s) := by
  unfold judge
  split
  · exact (respond_recedes ..).moves
  · split
    · exact (respond_recedes ..).moves
    · split
      · exact (respond_recedes ..).moves
      · exact (h k params s).trans (respond_recedes ..).moves

theorem takeRequest_moves {owner : Owner} (h : OwnerMoves owner) (k : SlotId) (code : Byte) (req : Option Request)
    (params : List Byte) (s : State) : Moves s (takeRequest k code req owner params s) := by
  refine .trans (setArb_recedes k { s.la.slots.get k with missRun := 0 } s).moves ?_
  unfold takeRequest
  dsimp only
  split
  · exact judge_moves h ..
  · refine .trans (report_recedes (accessReport k .unauthorized code) _).moves ?_
    split
    · exact (freeLink_recedes _).moves
    · exact (respond_recedes ..).moves
    · exact judge_moves h ..

theorem arrive_moves {owner : Owner} (h : OwnerMoves owner) (code : Byte) (req : Option Request) (params : List Byte) (s : State) :
    Moves s (arrive code req owner params s) := by
  unfold arrive
  split
  · exact .refl
  case h_2 k u hu => exact (frameTurn_recedes hu).moves.trans (takeRequest_moves h ..)

/-- A command that is taken whole makes the moves of its effect. -/
theorem whenPowered_moves {f : State → State} (h : ∀ s, Moves s (f s)) {s t : State} (e : whenPowered s f = .next t) : Moves s t := by
  cases e
  split
  · exact h s
  · exact .refl

theorem whenPowered_recedes {f : State → State} (h : ∀ s, Recedes s (f s)) {s t : State} (e : whenPowered s f = .next t) :
    Moves s t :=
  whenPowered_moves (fun s => (h s).moves) e

/-- A request makes the moves of its owner. -/
theorem serve_moves {owner : Owner} (h : OwnerMoves owner) {r : Request} {params : List Byte} {s t : State}
    (e : whenPowered s (serve r owner params) = .next t) : Moves s t :=
  whenPowered_moves (arrive_moves h _ _ params) e

/-- Every command is made of moves. -/
theorem exec_moves {c : Instr} {s t : State} (e : exec c s = .next t) : Moves s t := by
  cases c with
  | frameArrival ch cand => exact whenPowered_recedes (frameArrival_recedes ch cand) e
  | silenceTimerExpiry ch => exact whenPowered_recedes (silenceTimerExpiry_recedes ch) e
  | receiverIdleGap ch => exact whenPowered_recedes (fun s => setChannel_recedes ch _ s) e
  | frameBoundary => exact whenPowered_recedes frameBoundary_recedes e
  | sessionEnd => exact whenPowered_recedes (fun s => boundaryIf_recedes _ s) e
  | secondClose => exact whenPowered_recedes (fun s => boundaryIf_recedes _ s) e
  | minuteClose => exact whenPowered_recedes (fun s => boundaryIf_recedes _ s) e
  | intervalClose => exact whenPowered_recedes (fun s => boundaryIf_recedes _ s) e
  | passResult => exact whenPowered_recedes passResult_recedes e
  | complianceTimerExpiry stage => exact whenPowered_recedes (complianceTimerExpiry_recedes stage) e
  | holdMinimumExpiry stage => exact whenPowered_recedes (holdMinimumExpiry_recedes stage) e
  | clockAdvance => exact whenPowered_moves clockAdvance_moves e
  | clockMinuteBoundary => exact whenPowered_moves clockMinuteBoundary_moves e
  | saveCompletion => exact whenPowered_recedes saveCompletion_recedes e
  | powerUp => cases e; exact (powerUp_recedes s).moves
  | commandReset => exact whenPowered_recedes (fun s => .ite (fun _ => commandReset_recedes s) fun _ => .refl s) e
  | lossOfPower => exact whenPowered_recedes lossOfPower_recedes e
  | requestLineAsserted slot => cases e; exact (requestLineAsserted_recedes slot s).moves
  | requestLineReleased slot => cases e; exact (setArb_recedes slot _ s).moves
  | parkedWindowExpiry => exact whenPowered_recedes .refl e
  | parkedFrameStart => exact whenPowered_recedes parkedFrameStart_recedes e
  | grantWindowExpiry => exact whenPowered_recedes grantWindowExpiry_recedes e
  | frameLengthExcess length => exact whenPowered_recedes (frameLengthExcess_recedes length) e
  | frameTimeLimit => exact whenPowered_recedes missClearing_recedes e
  | badFrameEnd chars => exact whenPowered_recedes (badFrameEnd_recedes chars) e
  | linkIdleGap => exact whenPowered_recedes linkIdleGap_recedes e
  | responseEnd => exact whenPowered_recedes responseEnd_recedes e
  | unknownRequest code params => exact whenPowered_moves (arrive_moves (fun _ _ _ => .refl) code none params) e
  | statusRead params => exact serve_moves ownerStatusRead_moves e
  | levelsRead params => exact serve_moves ownerLevelsRead_moves e
  | noticeEnable params => exact serve_moves ownerNoticeEnable_moves e
  | grantQuery params => exact serve_moves ownerGrantQuery_moves e
  | grantAck params => exact serve_moves ownerGrantAck_moves e
  | sessionOpen params => exact serve_moves ownerSessionOpen_moves e
  | sessionClose params => exact serve_moves ownerSessionClose_moves e
  | pointWrite params => exact serve_moves ownerPointWrite_moves e
  | stageWrite params => exact serve_moves ownerStageWrite_moves e
  | channelBind params => exact serve_moves ownerChannelBind_moves e
  | shareWrite params => exact serve_moves ownerShareWrite_moves e
  | couplingWrite params => exact serve_moves ownerCouplingWrite_moves e
  | couplingRead params => exact serve_moves ownerCouplingRead_moves e
  | surveyStart params => exact serve_moves ownerSurveyStart_moves e
  | surveyAbort params => exact serve_moves ownerSurveyAbort_moves e
  | surveyAccept params => exact serve_moves ownerSurveyAccept_moves e
  | surveyDiscard params => exact serve_moves ownerSurveyDiscard_moves e
  | surveyRead params => exact serve_moves ownerSurveyRead_moves e
  | schedRead params => exact serve_moves ownerSchedRead_moves e
  | schedWrite params => exact serve_moves ownerSchedWrite_moves e
  | schedClear params => exact serve_moves ownerSchedClear_moves e
  | schedCommit params => exact serve_moves ownerSchedCommit_moves e
  | sessionLimitWrite params => exact serve_moves ownerSessionLimitWrite_moves e
  | fallbackWrite params => exact serve_moves ownerFallbackWrite_moves e
  | timeSet params => exact serve_moves ownerTimeSet_moves e
  | roleWrite params => exact serve_moves ownerRoleWrite_moves e
  | dispatchWrite params => exact serve_moves ownerDispatchWrite_moves e
  | holdForce params => exact serve_moves ownerHoldForce_moves e
  | holdUnforce params => exact serve_moves ownerHoldUnforce_moves e
  | recordRead params => exact serve_moves ownerRecordRead_moves e
  | recordRelease params => exact serve_moves ownerRecordRelease_moves e
  | arbWrite params => exact serve_moves ownerArbWrite_moves e
  | arbClear params => exact serve_moves ownerArbClear_moves e
  | timingWrite params => exact serve_moves ownerTimingWrite_moves e
  | storeSave params => exact serve_moves ownerStoreSave_moves e
  | reset params => exact serve_moves ownerReset_moves e

/-- Every step is made of moves. -/
theorem step_moves {s t : State} (e : step s = .next t) : Moves s t := by
  cases hp : s.pending with
  | nil =>
    rw [step_empty s hp] at e
    cases e
    exact (idle_recedes s).moves
  | cons c rest =>
    rw [step_front s c rest hp] at e
    have taken : Recedes s { s with pending := rest } := .of_frame rfl rfl rfl rfl
    exact taken.moves.trans (exec_moves e)

/-- What every move keeps, every step keeps. -/
theorem step_keeps {P : State → Prop} (hP : ∀ {s t}, ScheduleMove s t → P s → P t) {s t : State} (hs : P s) (e : step s = .next t) :
    P t := by
  have moves := step_moves e
  clear e
  induction moves with
  | refl => exact hs
  | tail _ hmove ih => exact hP hmove ih

/-! ### The schedule (R67) -/

theorem scheduleLawful_congr {g h : Settings} (e : g.schedule = h.schedule) (hh : h.scheduleLawful) : g.scheduleLawful := by
  unfold Settings.scheduleLawful at *
  rwa [e]

theorem factory_scheduleLawful : Settings.factory.scheduleLawful := ⟨by decide, by decide, by decide⟩

/-- A schedule that passes the check has a period and ascends (R78, checks 1 and 2). -/
theorem checkSchedule_none {ps : List Period} {a : Allowance} (h : checkSchedule ps a = none) :
    1 ≤ ps.length ∧ ascending ps = true := by
  unfold checkSchedule at h
  split at h
  · cases h
  case isFalse hne =>
    split at h
    · cases h
    case isFalse hasc => exact ⟨List.length_pos_iff.2 hne, by simpa using hasc⟩

theorem writePeriod_length_le {ps : List Period} {i : Nat} {q : Period} (h : ps.length ≤ 16) (hle : i ≤ ps.length) (hi : i < 16) :
    (writePeriod ps i q).length ≤ 16 := by
  unfold writePeriod
  split
  · simpa using h
  · simp only [List.length_append, List.length_singleton]
    omega

/-- The schedules held are lawful, and the pending list is no longer than a schedule may be. -/
def schedulesHeldLawful (s : State) : Prop := s.settingsAll Settings.scheduleLawful ∧ s.su.pendingList.length ≤ 16

/-! ### The clock (R63) -/

theorem word_le (a b : Byte) : word a b ≤ 65535 := by
  unfold word
  omega

theorem advance_inRange {c : Time} (hd : c.day ≤ 65535) (hs : c.secs ≤ 86399) :
    c.advance.day ≤ 65535 ∧ c.advance.secs ≤ 86399 := by
  unfold Time.advance
  split
  · simp only
    omega
  · simp only
    omega

theorem readTime_inRange {params : List Byte} {c : Time} (h : readTime params = some c) : c.day ≤ 65535 ∧ c.secs ≤ 86399 := by
  unfold readTime at h
  split at h
  · dsimp only at h
    split at h
    case isTrue hle =>
      cases h
      exact ⟨word_le _ _, hle⟩
    case isFalse => cases h
  · cases h

/-! ### The invariants -/

/-- Settles O16: an adopted schedule has passed its check, and every other schedule held was held before or is the factory's. -/
theorem scheduleStaysLawful : Obligations.ScheduleStaysLawful := by
  intro s t hall hlist
  refine step_keeps (P := schedulesHeldLawful) (fun hmove hP => ?_) ⟨hall, hlist⟩
  obtain ⟨hall, hlist⟩ := hP
  cases hmove with
  | recede h =>
    refine ⟨fun g hg => ?_, ?_⟩
    · rcases h.schedules g hg with e | ⟨x, hx, e⟩
      · exact scheduleLawful_congr e factory_scheduleLawful
      · exact scheduleLawful_congr e (hall x hx)
    · rcases h.pendingList with e | e <;> rw [e]
      · exact hlist
      · exact Nat.zero_le _
  | setClock => exact ⟨hall, hlist⟩
  | writePeriod i q hle hi => exact ⟨hall, writePeriod_length_le hlist hle hi⟩
  | adoptSchedule h =>
    obtain ⟨hpos, hasc⟩ := checkSchedule_none h
    refine ⟨fun g hg => ?_, hlist⟩
    rcases List.mem_cons.1 hg with rfl | hg
    · exact ⟨hpos, hlist, hasc⟩
    · exact hall g (List.mem_cons_of_mem _ hg)
  | openSession => exact ⟨hall, hlist⟩
  | startSurvey => exact ⟨hall, hlist⟩

/-- Settles O21: the clock wraps as it advances, and a time that is set was read in range. -/
theorem clockStaysInRange : Obligations.ClockStaysInRange := by
  intro s t
  refine step_keeps (P := State.clockInRange) fun hmove hP => ?_
  obtain ⟨hday, hsecs⟩ := hP
  cases hmove with
  | recede h =>
    unfold State.clockInRange
    rcases h.clock with e | e <;> rw [e]
    · exact ⟨hday, hsecs⟩
    · decide
  | setClock c h =>
    rcases h with rfl | ⟨params, h⟩
    · exact advance_inRange hday hsecs
    · exact readTime_inRange h
  | writePeriod => exact ⟨hday, hsecs⟩
  | adoptSchedule => exact ⟨hday, hsecs⟩
  | openSession => exact ⟨hday, hsecs⟩
  | startSurvey => exact ⟨hday, hsecs⟩

/-- Settles O14: a session opens only outside a survey, and a survey starts only outside a session. -/
theorem noSessionStaysInSurvey : Obligations.NoSessionStaysInSurvey := by
  intro s t
  refine step_keeps (P := State.noSessionInSurvey) fun hmove hP => ?_
  cases hmove with
  | recede h =>
    intro hrun
    rcases h.session with e | e <;> rw [e]
    exact hP (h.running hrun)
  | setClock => exact hP
  | writePeriod => exact hP
  | adoptSchedule => exact hP
  | openSession q h => exact fun hrun => absurd (h.symm.trans hrun) Bool.false_ne_true
  | startSurvey v h => exact fun _ => h

end Sys2Proof.Proofs.ScheduleMoves
end

section
/-!
The schedule unit (04_limit_schedule_clock_and_curfew.md): which period is in force (R68), and the writes of the pending schedule
(R74 to R77).
-/

namespace Sys2Proof.Proofs.ScheduleUnit

open Sys2Proof Sys2Proof.Machine

/-! ### The period in force (R68) -/

/-- The last period that starts at or before a minute, with its place in the list: none after it starts by then. -/
theorem lastStarted_eq_some {ps : List Period} {t i : Nat} {q : Period}
    (h : (ps.zipIdx.filter fun x => x.1.start ≤ t).getLast? = some (q, i)) :
    ps[i]? = some q ∧ q.start ≤ t ∧ ∀ (j : Nat) x, i < j → ps[j]? = some x → t < x.start := by
  induction ps using List.reverseRecOn with
  | nil => simp at h
  | append_singleton ps a ih =>
    rw [List.zipIdx_append, List.filter_append, List.zipIdx_singleton, Nat.zero_add] at h
    by_cases ha : a.start ≤ t
    · rw [List.filter_cons_of_pos (by simpa using ha), List.filter_nil, List.getLast?_concat] at h
      obtain ⟨rfl, rfl⟩ := Prod.mk.inj (Option.some.inj h)
      refine ⟨List.getElem?_concat_length, ha, fun j x hj hx => ?_⟩
      rw [List.getElem?_eq_none (by simp; omega)] at hx
      cases hx
    · rw [List.filter_cons_of_neg (by simpa using ha), List.filter_nil, List.append_nil] at h
      obtain ⟨hq, hle, hafter⟩ := ih h
      have hi : i < ps.length := (List.getElem?_eq_some_iff.1 hq).1
      refine ⟨(List.getElem?_append_left hi).trans hq, hle, fun j x hj hx => ?_⟩
      rcases Nat.lt_or_ge j ps.length with hlt | hge
      · exact hafter j x hj ((List.getElem?_append_left hlt).symm.trans hx)
      · obtain rfl := List.mem_singleton.1 (List.mem_of_getElem? ((List.getElem?_append_right hge).symm.trans hx))
        omega

/-- Where no period starts at or before a minute, every period starts after it. -/
theorem lastStarted_eq_none {ps : List Period} {t : Nat} (h : (ps.zipIdx.filter fun x => x.1.start ≤ t).getLast? = none) :
    ∀ x ∈ ps, t < x.start := by
  intro x hx
  obtain ⟨i, hi⟩ := List.mem_iff_getElem?.1 hx
  have hmem : (x, i) ∈ ps.zipIdx := List.mem_zipIdx_iff_getElem?.2 hi
  simpa using List.filter_eq_nil_iff.1 (List.getLast?_eq_none_iff.1 h) _ hmem

/-- The period in force is the last that starts by then, or else the last of all (R68). -/
theorem periodInForce_spec {ps : List Period} (hne : ps ≠ []) (t : Nat) :
    ∃ i q, periodInForce ps t = some (q, i) ∧ ps[i]? = some q ∧
      ((q.start ≤ t ∧ ∀ (j : Nat) x, i < j → ps[j]? = some x → t < x.start) ∨
        (i + 1 = ps.length ∧ ∀ x ∈ ps, t < x.start)) := by
  unfold periodInForce
  cases h : (ps.zipIdx.filter fun x => x.1.start ≤ t).getLast? with
  | some x =>
    obtain ⟨hq, hle, hafter⟩ := lastStarted_eq_some h
    exact ⟨x.2, x.1, rfl, hq, .inl ⟨hle, hafter⟩⟩
  | none =>
    have hpos : 0 < ps.length := List.length_pos_iff.2 hne
    refine ⟨ps.length - 1, ps.getLast hne, ?_, ?_, .inr ⟨by omega, lastStarted_eq_none h⟩⟩
    · simp [List.getLast?_eq_getElem?, List.getLast_eq_getElem, hpos]
    · simp [List.getLast_eq_getElem, hpos]

/-- Settles O38: the two readings of `periodInForce`, under a valid clock and under none. -/
theorem periodInForceGivesTheLimits : Obligations.PeriodInForceGivesTheLimits := by
  intro s
  refine ⟨fun h => by simp [State.newLimits, h, fallbackLimits], fun h hne => ?_⟩
  obtain ⟨i, q, hforce, hq, hplace⟩ := periodInForce_spec hne s.su.clock.minute
  exact ⟨i, q, hq, by simp [State.newLimits, h, hforce], hplace⟩

/-! ### The pending schedule (R74 to R77) -/

/-- A request that its owner turns down under the commit mark and otherwise answers with a payload on a new schedule unit (R74). -/
theorem serve_unlessCommitted {s w : State} {k : SlotId} {r : Request} {params payload : List Byte} {u : ScheduleUnit} {owner : Owner}
    (hw : s.admits k r params w)
    (ho : owner k params w = if w.su.commit then turnDown (.state .commitPending) w else ok payload { w with su := u }) :
    if s.su.commit = true then
      whenPowered s (serve r owner params) = .next (respond k ⟨.state .commitPending, []⟩ w)
    else whenPowered s (serve r owner params) = .next (respond k ⟨.ok, payload⟩ { w with su := u }) := by
  have hsu : w.su = s.su := by rw [taken_eq hw.2.1]
  rw [serve_next owner hw, ho, hsu]
  cases s.su.commit <;> rfl

/-- What SCHED_WRITE's owner answers, its parameters being read and its index allowed (R75). -/
theorem ownerSchedWrite_of_le {k : SlotId} {params : List Byte} {w : State} {i : Nat} {q : Period} (hr : readPeriod params = some (i, q))
    (hi : i ≤ w.su.pendingList.length) (h15 : i ≤ 15) :
    ownerSchedWrite k params w = if w.su.commit then turnDown (.state .commitPending) w else
      ok (u8 (writePeriod w.su.pendingList i q).length)
        { w with su := { w.su with pendingList := writePeriod w.su.pendingList i q } } := by
  simp only [ownerSchedWrite, hr]
  rw [if_neg (by omega)]

/-- Settles O57: each owner looks at the commit mark after its parameters, and writes one field. -/
theorem pendingScheduleIsWritten : Obligations.PendingScheduleIsWritten := by
  intro s w k params
  dsimp only
  refine ⟨fun hw i q hr => ?_, fun hw => ?_, fun hw a hr => ?_, fun hw => ?_⟩
  all_goals have hsu : w.su = s.su := by rw [taken_eq hw.2.1]
  · refine ⟨fun hi => ?_, fun hi h15 => ?_, fun hi h15 => ?_⟩
    · refine (serve_next ownerSchedWrite hw).trans ?_
      simp only [ownerSchedWrite, hr, hsu]
      rw [if_pos (by omega)]
      rfl
    · refine serve_unlessCommitted hw ((ownerSchedWrite_of_le hr (by rw [hsu]; omega) h15).trans ?_)
      simp only [writePeriod, hsu, hi, if_true, List.length_set]
    · refine serve_unlessCommitted hw ((ownerSchedWrite_of_le hr (by rw [hsu]; omega) h15).trans ?_)
      simp only [writePeriod, hsu, hi, Nat.lt_irrefl, if_false, List.length_append, List.length_singleton]
  · refine serve_unlessCommitted hw ?_
    rw [ownerSchedClear, hsu]
  · refine serve_unlessCommitted hw ?_
    simp only [ownerSessionLimitWrite, hr, hsu]
  · refine serve_unlessCommitted hw ?_
    rw [ownerSchedCommit, hsu]

end Sys2Proof.Proofs.ScheduleUnit
end

section
/-!
What the reads answer (R80, R92, R109, R140, R166, R174, R191, R192, R198, R203 to R206). Every payload is a run of fields, one after
another, and of blocks of one length. `laidOut_of_consecutive` and `block_at` say once where such fields and blocks stand; the layouts
are then read off the payloads' definitions.
-/

namespace Sys2Proof.Proofs.Reads

open Sys2Proof Sys2Proof.Machine

/-! ### Lengths of the encodings (R198) -/

@[simp] theorem length_u8 (n : Nat) : (u8 n).length = 1 := rfl
@[simp] theorem length_u16 (n : Nat) : (u16 n).length = 2 := rfl
@[simp] theorem length_u32 (n : Nat) : (u32 n).length = 4 := rfl
@[simp] theorem length_u64 (n : Nat) : (u64 n).length = 8 := rfl
@[simp] theorem length_i16 (x : Int) : (i16 x).length = 2 := rfl
@[simp] theorem length_flag (b : Bool) : (flag b).length = 1 := rfl
@[simp] theorem length_timeBytes (c : Time) : (timeBytes c).length = 6 := rfl
@[simp] theorem length_coded {α : Type} [DecidableEq α] (values : List α) (x : α) : (coded values x).length = 1 := rfl

@[simp] theorem length_couplingBytes (x : Option Int) : (couplingBytes x).length = 2 := by cases x <;> rfl

/-- An optional value has its presence byte and the bytes of its width, present or not. -/
theorem length_optional {α : Type} {width : Nat} {f : α → List Byte} (h : ∀ a, (f a).length = width) (x : Option α) :
    (Machine.optional width (x.map f)).length = 1 + width := by
  cases x with
  | none => simp [Machine.optional, Nat.add_comm]
  | some a => simp [Machine.optional, h, Nat.add_comm]

@[simp] theorem length_optional_u8 {α : Type} (f : α → Nat) (x : Option α) :
    (Machine.optional 1 (x.map fun a => u8 (f a))).length = 2 := length_optional (fun _ => length_u8 _) x

@[simp] theorem length_optional_u16 (x : Option Nat) : (Machine.optional 2 (x.map u16)).length = 3 :=
  length_optional length_u16 x

@[simp] theorem length_optional_i16 (x : Option Int) : (Machine.optional 2 (x.map i16)).length = 3 :=
  length_optional length_i16 x

@[simp] theorem u8_zero : u8 0 = [0] := rfl
@[simp] theorem u8_one : u8 1 = [1] := rfl
@[simp] theorem u16_zero : u16 0 = [0, 0] := rfl
@[simp] theorem flag_false : flag false = [0] := rfl
@[simp] theorem flag_true : flag true = [1] := rfl

/-! ### Codes: each enumeration is sent as its position (R198) -/

@[simp] theorem coded_tierValues : coded tierValues = fun x => u8 x.code := by funext x; cases x <;> rfl
@[simp] theorem coded_sourceValues : coded sourceValues = fun x => u8 x.code := by funext x; cases x <;> rfl
@[simp] theorem coded_channelValues : coded channelValues = fun x => u8 x.code := by funext x; cases x <;> rfl
@[simp] theorem coded_kindValues : coded kindValues = fun x => u8 x.code := by funext x; cases x <;> rfl
@[simp] theorem coded_complianceValues : coded complianceValues = fun x => u8 x.code := by funext x; cases x <;> rfl
@[simp] theorem coded_causeValues : coded causeValues = fun x => u8 x.code := by funext x; cases x <;> rfl
@[simp] theorem coded_changeValues : coded changeValues = fun x => u8 x.code := by funext x; cases x <;> rfl
@[simp] theorem coded_eventValues : coded eventValues = fun x => u8 x.code := by funext x; cases x <;> rfl

@[simp] theorem coded_resultValues : coded resultValues = fun x => u8 (schedReasonCode x) := by
  funext x
  rcases x with _ | x
  · rfl
  · cases x <;> rfl

@[simp] theorem coded_marks :
    coded [Mark.none, .top, .floor, .curfew, .stop, .survey, .closed] = fun x => u8 x.code := by funext x; cases x <;> rfl

@[simp] theorem coded_surveyStates : coded [SurveyState.idle, .quiet, .signal, .done, .aborted] = fun x => u8 x.code := by
  funext x; cases x <;> rfl

@[simp] theorem coded_surveyReasons :
    coded [SurveyReason.notQuiet, .channelLost, .interference, .weakSignal, .operator] = fun x => u8 x.code := by
  funext x; cases x <;> rfl

@[simp] theorem coded_surveyOutcomes :
    coded [none, some SurveyReason.notQuiet, some .channelLost, some .interference, some .weakSignal, some .operator] =
      fun x => u8 (match x with | none => 0 | some r => r.code + 1) := by
  funext x
  rcases x with _ | x
  · rfl
  · cases x <;> rfl

@[simp] theorem coded_periodKinds : coded [PeriodKind.opened, .stop] = fun x => u8 (if x = .stop then 1 else 0) := by
  funext x; cases x <;> rfl

@[simp] theorem coded_gapCauses : coded [GapCause.powerUp, .commandReset, .storeInvalid, .ringFull] = fun x => u8 x.code := by
  funext x; cases x <;> rfl

/-- A class is numbered by its priority (R170). -/
@[simp] theorem idxOf_classValues (n : Notice) : classValues.idxOf n.cls = n.rank := by cases n <;> rfl

/-! ### Fields one after another -/

/-- Each field starts where the one before it ends, the first at an offset. -/
def consecutive : Nat → List (Nat × List Byte) → Prop
  | _, [] => True
  | offset, f :: fs => f.1 = offset ∧ consecutive (offset + f.2.length) fs

theorem holds_of_consecutive {fields : List (Nat × List Byte)} (pre rest : List Byte) (h : consecutive pre.length fields) :
    ∀ f ∈ fields, ((pre ++ ((fields.map Prod.snd).flatten ++ rest)).drop f.1).take f.2.length = f.2 := by
  induction fields generalizing pre with
  | nil => simp
  | cons g gs ih =>
    obtain ⟨hg, hgs⟩ := h
    intro f hf
    rcases List.mem_cons.1 hf with rfl | hf
    · rw [hg]
      simp
    · have := ih (pre ++ g.2) (by simpa using hgs) f hf
      simpa using this

/-- Consecutive fields from the first byte on stand where they are named. -/
theorem laidOut_of_consecutive {b : List Byte} {length : Nat} {fields : List (Nat × List Byte)} (rest : List Byte)
    (hb : b = (fields.map Prod.snd).flatten ++ rest) (hlength : b.length = length) (h : consecutive 0 fields) :
    laidOut b length fields := by
  refine ⟨hlength, ?_⟩
  rw [hb]
  exact holds_of_consecutive [] rest h

/-- Some of the fields of a layout. -/
theorem laidOut_mono {b : List Byte} {length : Nat} {fields part : List (Nat × List Byte)} (h : laidOut b length fields)
    (hsub : ∀ f ∈ part, f ∈ fields) : laidOut b length part :=
  ⟨h.1, fun f hf => h.2 f (hsub f hf)⟩

/-! ### Blocks of one length -/

theorem length_blocks {α : Type} {f : α → List Byte} {n : Nat} (hf : ∀ x, (f x).length = n) (l : List α) :
    (l.flatMap f).length = n * l.length := by
  simp [List.length_flatMap, hf, Nat.mul_comm]

theorem block_of_flatMap {α : Type} {f : α → List Byte} {n : Nat} (hf : ∀ x, (f x).length = n) {l : List α} {i : Nat} {x : α}
    (h : l[i]? = some x) (rest : List Byte) : ((l.flatMap f ++ rest).drop (n * i)).take n = f x := by
  induction l generalizing i with
  | nil => simp at h
  | cons y ys ih =>
    cases i with
    | zero =>
      obtain rfl : y = x := by simpa using h
      simp [← hf y]
    | succ i =>
      rw [List.flatMap_cons, List.append_assoc, Nat.mul_succ, Nat.add_comm, ← List.drop_drop, List.drop_left' (hf y)]
      exact ih (by simpa using h)

/-- After `offset` bytes, the block of the entry at a position. -/
theorem block_at {α : Type} {f : α → List Byte} {n offset : Nat} {pre rest : List Byte} {l : List α} {i : Nat} {x : α}
    (hpre : pre.length = offset) (hf : ∀ x, (f x).length = n) (h : l[i]? = some x) :
    ((pre ++ (l.flatMap f ++ rest)).drop (offset + n * i)).take n = f x := by
  rw [← List.drop_drop, List.drop_left' hpre]
  exact block_of_flatMap hf h rest

theorem getElem?_allPoints (k : PointId) : allPoints[k.1]? = some k := by revert k; decide
theorem getElem?_allStages (u : StageId) : allStages[u.1]? = some u := by revert u; decide
theorem getElem?_allSlots (j : SlotId) : allSlots[j.1]? = some j := by revert j; decide
theorem getElem?_allChannels (c : ChannelId) : allChannels[c.1]? = some c := by revert c; decide

/-- The entry at a place of the part of a list that starts at `first`. -/
theorem getElem?_part {α : Type} {l : List α} {first count i : Nat} {x : α} (h : l[i]? = some x) (hle : first ≤ i)
    (hlt : i < first + count) : ((l.drop first).take count)[i - first]? = some x := by
  rw [List.getElem?_take_of_lt (by omega), List.getElem?_drop, Nat.add_sub_cancel' hle, h]

/-! ### The encodings (R198) -/

theorem toNat_ofNat_byte (n : Nat) : (BitVec.ofNat 8 n).toNat = n % 256 := BitVec.toNat_ofNat n 8

theorem u8_value {n : Nat} (h : n < 2 ^ 8) : ∃ a, u8 n = [a] ∧ n = a.toNat :=
  ⟨_, rfl, by rw [toNat_ofNat_byte]; omega⟩

theorem u16_value {n : Nat} (h : n < 2 ^ 16) : ∃ a b, u16 n = [a, b] ∧ n = a.toNat * 2 ^ 8 + b.toNat :=
  ⟨_, _, rfl, by rw [toNat_ofNat_byte, toNat_ofNat_byte]; omega⟩

theorem u32_value {n : Nat} (h : n < 2 ^ 32) :
    ∃ a b c d, u32 n = [a, b, c, d] ∧ n = ((a.toNat * 2 ^ 8 + b.toNat) * 2 ^ 8 + c.toNat) * 2 ^ 8 + d.toNat :=
  ⟨_, _, _, _, rfl, by simp only [toNat_ofNat_byte]; omega⟩

/-- The low four bytes of a number are those of its remainder. -/
theorem u32_mod (n : Nat) : u32 n = u32 (n % 2 ^ 32) := by
  have byte : ∀ a b : Nat, a % 256 = b % 256 → BitVec.ofNat 8 a = BitVec.ofNat 8 b := fun a b h =>
    BitVec.eq_of_toNat_eq (by simpa only [toNat_ofNat_byte] using h)
  simp only [u32, u16, List.cons_append, List.nil_append, List.cons.injEq, and_true]
  exact ⟨byte _ _ (by omega), byte _ _ (by omega), byte _ _ (by omega), byte _ _ (by omega)⟩

theorem u64_value {n : Nat} (h : n < 2 ^ 64) :
    ∃ high low, high < 2 ^ 32 ∧ low < 2 ^ 32 ∧ u64 n = u32 high ++ u32 low ∧ n = high * 2 ^ 32 + low :=
  ⟨n / 2 ^ 32, n % 2 ^ 32, by omega, by omega, by rw [← u32_mod n]; rfl, by omega⟩

theorem i16_value {x : Int} (hlow : -2 ^ 15 ≤ x) (hhigh : x < 2 ^ 15) :
    ∃ n, n < 2 ^ 16 ∧ i16 x = u16 n ∧ x = if n < 2 ^ 15 then (n : Int) else n - 2 ^ 16 :=
  ⟨(x % 65536).toNat, by omega, rfl, by split <;> omega⟩

theorem timeBytes_eq (c : Time) : timeBytes c = u16 c.day ++ u32 (if c.valid = true then 2 ^ 31 + c.secs else c.secs) := by
  cases h : c.valid <;> simp [timeBytes, h, Nat.add_comm]

/-! ### GRANT_QUERY (R140, R204) -/

/-- R151: the hold line as it is computed and as the rule says it. -/
theorem holdLine_iff (g : Grant) : g.holdLine = true ↔ g.holds := by
  unfold Grant.holdLine Grant.holds
  cases g.compliance <;> simp [Compliance.pads]

theorem grantPayload_shown (a : GrantUnit) (u : StageId) : a.shownBy u (grantPayload a u) := by
  have hseconds : (a.curfew.next.map fun n => u16 n.t) = a.curfew.seconds.map u16 := by
    simp [CurfewInfo.seconds, Function.comp_def]
  refine ⟨(a.grants.get u).holdLine, holdLine_iff _, ?_⟩
  rw [hseconds]
  refine laidOut_of_consecutive [] ?_ ?_ ?_
  · simp [grantPayload]
  · simp [grantPayload]
  · simp [consecutive]

/-! ### COUPLING_READ (R92) -/

theorem couplingPayload_shown (g : Settings) (u : StageId) :
    let b := allPoints.flatMap fun k => couplingBytes (g.couplingOf u k)
    b.length = 16 ∧ ∀ j : PointId, (b.drop (2 * j.1)).take 2 = couplingBytes ((g.coupling.get u).get j) := by
  refine ⟨length_blocks (fun _ => length_couplingBytes _) allPoints, fun j => ?_⟩
  simpa [Settings.couplingOf] using
    block_of_flatMap (fun k => length_couplingBytes (g.couplingOf u k)) (getElem?_allPoints j) []

/-! ### SURVEY_READ (R109) -/

theorem length_pointResult (x : PointResult) : x.bytes.length = 10 := by simp [PointResult.bytes]

theorem pointResult_laidOut (x : PointResult) : laidOut x.bytes 10 [(0, if x.code = none then [1] else [0]),
    (1, Machine.optional 2 (x.code.map i16)), (4, Machine.optional 2 (x.lvB.map u16)), (7, Machine.optional 2 (x.lvS.map u16))] := by
  refine laidOut_of_consecutive [] ?_ (length_pointResult x) ?_
  · cases h : x.code <;> simp [PointResult.bytes, h]
  · simp [consecutive, apply_ite List.length]

theorem length_surveyResults (r : SurveyResults) : r.bytes.length = 82 := by
  rw [SurveyResults.bytes, List.length_append, length_blocks fun k => length_pointResult (r.points.get k)]
  rfl

/-- SURVEY_READ up to the point counts. -/
def surveyHead (v : Survey) : List Byte :=
  u8 v.state.code ++ u8 v.stage.1 ++ u8 v.d ++ u16 v.level ++ u8 v.phaseSecs ++ u8 v.excluded ++ u8 v.strong ++
    Machine.optional 1 (v.reason.map fun r => u8 r.code)

/-- The counts of a point in the two phases. -/
def surveyCounts (v : Survey) (k : PointId) : List Byte := u8 (v.quiet.get k).unusable ++ u8 (v.signal.get k).unusable

theorem length_surveyHead (v : Survey) : (surveyHead v).length = 10 := by simp [surveyHead]

theorem length_surveyCounts (v : Survey) (k : PointId) : (surveyCounts v k).length = 2 := rfl

theorem length_allCounts (v : Survey) : (allPoints.flatMap (surveyCounts v)).length = 16 :=
  length_blocks (length_surveyCounts v) allPoints

theorem surveyPayload_eq (v : Survey) : surveyPayload v =
    surveyHead v ++ (allPoints.flatMap (surveyCounts v) ++ Machine.optional 82 (v.results.map SurveyResults.bytes)) := by
  simp only [surveyPayload, surveyHead, List.append_assoc]
  rfl

theorem length_surveyPayload (v : Survey) : (surveyPayload v).length = 109 := by
  rw [surveyPayload_eq, List.length_append, List.length_append, length_surveyHead, length_allCounts,
    length_optional length_surveyResults]

theorem surveyPayload_drop (v : Survey) :
    (surveyPayload v).drop 26 = Machine.optional 82 (v.results.map SurveyResults.bytes) := by
  rw [surveyPayload_eq, ← List.append_assoc]
  exact List.drop_left' (by rw [List.length_append, length_surveyHead, length_allCounts])

/-- The result table, where there is one: the code and the two levels of each point, then Lv(r). -/
theorem surveyPayload_of_results {v : Survey} {r : SurveyResults} (h : v.results = some r) :
    surveyPayload v = (surveyHead v ++ allPoints.flatMap (surveyCounts v) ++ [1]) ++
      ((allPoints.flatMap fun k => (r.points.get k).bytes) ++ u16 r.lvR) := by
  rw [surveyPayload_eq, h]
  simp [Machine.optional, SurveyResults.bytes]

theorem surveyResults_laidOut {v : Survey} {r : SurveyResults} (h : v.results = some r) :
    laidOut (surveyPayload v) 109 [(26, [1]), (107, u16 r.lvR)] := by
  have hpoints := length_blocks (fun k => length_pointResult (r.points.get k)) allPoints
  refine laidOut_mono (laidOut_of_consecutive (fields := [(0, surveyHead v ++ allPoints.flatMap (surveyCounts v)), (26, [1]),
    (27, allPoints.flatMap fun k => (r.points.get k).bytes), (107, u16 r.lvR)]) [] ?_ (length_surveyPayload v) ?_) (by simp)
  · rw [surveyPayload_of_results h]
    simp
  · simp only [consecutive, hpoints, List.length_append, length_surveyHead, length_allCounts]
    decide

theorem surveyPayload_shown (v : Survey) : v.shownBy (surveyPayload v) := by
  refine ⟨?_, fun k => ?_, fun h => ?_, fun r h => ⟨?_, fun k => ?_⟩⟩
  · refine laidOut_of_consecutive _ ((surveyPayload_eq v).trans (congrArg (· ++ _) ?_)) (length_surveyPayload v) ?_
    · simp [surveyHead]
    · simp [consecutive]
  · rw [surveyPayload_eq]
    exact block_at (length_surveyHead v) (length_surveyCounts v) (getElem?_allPoints k)
  · rw [surveyPayload_drop, h]
    rfl
  · exact surveyResults_laidOut h
  · have hpre : (surveyHead v ++ allPoints.flatMap (surveyCounts v) ++ [1]).length = 27 := by
      rw [List.length_append, List.length_append, length_surveyHead, length_allCounts]
      rfl
    rw [surveyPayload_of_results h, block_at hpre (fun k => length_pointResult (r.points.get k)) (getElem?_allPoints k)]
    exact pointResult_laidOut _

/-! ### LEVELS_READ (R192, R205) -/

theorem length_channelBytes (s : State) (c : ChannelId) : (channelBytes s c).length = 10 := by
  unfold channelBytes
  cases (s.settings.channelMap.get c).binding <;> rfl

theorem channelBytes_shown (s : State) (c : ChannelId) : s.channelShownBy c (channelBytes s c) := by
  refine laidOut_of_consecutive [] ?_ (length_channelBytes s c) ?_
  · unfold channelBytes
    cases (s.settings.channelMap.get c).binding <;> simp [Binding.bytes]
  · cases (s.settings.channelMap.get c).binding <;> simp [consecutive]

theorem standing_eq (a : Engine) (k : PointId) : a.standing k = (a.figures.bind (·.points)).bind (·.get k) := by
  unfold Engine.standing
  cases a.figures with
  | none => rfl
  | some f => cases h : f.points <;> simp [h]

theorem length_standingBytes (x : Option PointStanding) : (standingBytes x).length = 9 := by rcases x with _ | _ | f <;> rfl

theorem length_pointBytes (s : State) (k : PointId) : (pointBytes s k).length = 25 := by simp [pointBytes, length_standingBytes]

theorem pointBytes_shown (s : State) (k : PointId) : s.pointShownBy k (pointBytes s k) := by
  refine laidOut_of_consecutive [] ?_ (length_pointBytes s k) ?_
  · unfold pointBytes
    rw [standing_eq]
    rcases (s.ae.figures.bind (·.points)).bind (·.get k) with _ | _ | f
    · simp [standingBytes, Machine.optional]
    · simp [standingBytes, Machine.optional]
    · simp [standingBytes, Machine.optional]
  · simp [consecutive]

theorem entry_eq (a : Engine) (u : StageId) : a.entry u = a.figures.bind fun f => f.stages.get u := by
  unfold Engine.entry
  cases a.figures <;> rfl

/-- The bytes of a stage's entry of the last pass. -/
def entryBytes (e : PassEntry) : List Byte := u16 e.target ++ u8 e.kind.code ++ u16 e.share ++ e.named.bytes

theorem length_entryBytes (e : PassEntry) : (entryBytes e).length = 10 := by simp [entryBytes, Constraint.bytes]

theorem stageBytes_eq (s : State) (u : StageId) : stageBytes s u =
    flag (s.settings.stages.get u).enabled ++ u16 (s.settings.stages.get u).floor ++ u16 (s.settings.stages.get u).top ++
      u16 (s.settings.stages.get u).idle ++ u16 (s.settings.stages.get u).share ++ flag (s.pm.refs.get u).seeing ++
      u16 (s.ei.stages.get u).latest ++ flag (s.ei.stages.get u).lastSeeing ++ flag (s.ae.reportedIdle u) ++
      Machine.optional 10 ((s.ae.entry u).map entryBytes) ++ u8 (s.gu.grants.get u).compliance.code ++ u16 (s.gu.grants.get u).c ++
      u16 (s.gu.grants.get u).t ++ flag (s.gu.grants.get u).holdLine := rfl

theorem length_stageBytes (s : State) (u : StageId) : (stageBytes s u).length = 31 := by
  simp [stageBytes_eq, length_optional length_entryBytes]

/-- By what the last pass shows of the stage, and by whether the engine keeps an activity of it. -/
theorem stageBytes_shown (s : State) (u : StageId) : s.stageShownBy u (stageBytes s u) := by
  refine ⟨(s.gu.grants.get u).holdLine, holdLine_iff _, laidOut_of_consecutive [] ?_ (length_stageBytes s u) ?_⟩
  · rw [stageBytes_eq, Engine.reportedIdle, entry_eq]
    rcases s.ae.figures.bind fun f => f.stages.get u with _ | e
    · cases s.ae.activity.get u <;> simp [Machine.optional]
    · cases s.ae.activity.get u <;> simp [Machine.optional, entryBytes, Constraint.bytes]
  · rcases s.ae.figures.bind fun f => f.stages.get u with _ | e
    · cases s.ae.activity.get u <;> simp [consecutive]
    · cases s.ae.activity.get u <;> simp [consecutive]

/-- The first indices that LEVELS_READ may name (R192). -/
theorem readLevelsPart_first {params : List Byte} {first : Nat} :
    (readLevelsPart params = some (.channels first) → first = 0 ∨ first = 8) ∧
    (readLevelsPart params = some (.points first) → first = 0 ∨ first = 4) := by
  unfold readLevelsPart
  split
  · split <;> simp_all [eq_comm]
  · simp

/-- A part of a run of blocks is as long as it has blocks, and holds the block of each entry from its first on. -/
theorem part_shown {n count first : Nat} {α : Type} {f : α → List Byte} (hf : ∀ x, (f x).length = n) {l : List α}
    (hcount : first + count ≤ l.length) :
    (((l.drop first).take count).flatMap f).length = n * count ∧
    ∀ (i : Nat) (x : α), l[i]? = some x → first ≤ i → i < first + count →
      ((((l.drop first).take count).flatMap f).drop (n * (i - first))).take n = f x := by
  refine ⟨?_, fun i x h hle hlt => ?_⟩
  · rw [length_blocks hf, List.length_take, List.length_drop]
    congr 1
    omega
  · have := block_of_flatMap hf (getElem?_part h hle hlt) []
    rwa [List.append_nil] at this

theorem levelsPayload_shown (s : State) {params : List Byte} {part : LevelsPart} (h : readLevelsPart params = some part) :
    s.levelsShownBy part (levelsPayload s part) := by
  cases part with
  | channels first =>
    have hcount : first + 8 ≤ allChannels.length := by rcases readLevelsPart_first.1 h with rfl | rfl <;> decide
    obtain ⟨hlength, hblock⟩ := part_shown (length_channelBytes s) hcount
    refine ⟨hlength, fun c hle hlt => ?_⟩
    exact (hblock c.1 c (getElem?_allChannels c) hle hlt).symm ▸ channelBytes_shown s c
  | points first =>
    have hcount : first + 4 ≤ allPoints.length := by rcases readLevelsPart_first.2 h with rfl | rfl <;> decide
    obtain ⟨hlength, hblock⟩ := part_shown (length_pointBytes s) hcount
    refine ⟨hlength, fun k hle hlt => ?_⟩
    exact (hblock k.1 k (getElem?_allPoints k) hle hlt).symm ▸ pointBytes_shown s k
  | stages =>
    refine ⟨laidOut_of_consecutive (allStages.flatMap (stageBytes s)) ?_ ?_ ?_, fun u => ?_⟩
    · simp [levelsPayload]
    · rw [levelsPayload, List.length_append, length_blocks (length_stageBytes s)]
      rfl
    · simp [consecutive]
    · have := block_at (rest := []) (length_u32 s.ei.sessionFrames) (length_stageBytes s) (getElem?_allStages u)
      rw [List.append_nil] at this
      exact this.symm ▸ stageBytes_shown s u

/-! ### SCHED_READ (R80, R203) -/

/-- The four zones in the order of their entries. -/
def allZones : List ZoneId := [0, 1, 2, 3]

theorem getElem?_allZones (z : ZoneId) : allZones[z.1]? = some z := by revert z; decide

theorem length_zoneBytes (z : ZoneLimits) : z.bytes.length = 6 := by
  unfold ZoneLimits.bytes
  cases z.window <;> rfl

theorem zoneBytes_shown (z : ZoneLimits) : z.shownBy z.bytes := by
  refine laidOut_of_consecutive [] ?_ (length_zoneBytes z) ?_
  · unfold ZoneLimits.bytes
    cases z.lf <;> cases z.window <;> simp
  · cases z.window <;> simp [consecutive]

theorem zonesBytes_eq (b : Bank 4 ZoneLimits) : zonesBytes b = allZones.flatMap fun z => (b.get z).bytes := by
  simp [zonesBytes, allZones]

theorem length_zonesBytes (b : Bank 4 ZoneLimits) : (zonesBytes b).length = 24 := by
  rw [zonesBytes_eq]
  exact length_blocks (fun z => length_zoneBytes (b.get z)) allZones

/-- Behind any bytes, the entry of a zone. -/
theorem zone_at {pre : List Byte} {offset : Nat} (hpre : pre.length = offset) (b : Bank 4 ZoneLimits) (z : ZoneId) :
    (b.get z).shownBy (((pre ++ zonesBytes b).drop (offset + 6 * z.1)).take 6) := by
  have := block_at (rest := []) hpre (fun z => length_zoneBytes (b.get z)) (getElem?_allZones z)
  rw [List.append_nil, ← zonesBytes_eq] at this
  rw [this]
  exact zoneBytes_shown _

theorem length_periodBytes (q : Period) : q.bytes.length = 28 := by simp [Period.bytes, length_zonesBytes]

theorem periodBytes_shown (q : Period) : q.shownBy q.bytes := by
  refine ⟨laidOut_of_consecutive (zonesBytes q.zones) ?_ (length_periodBytes q) ?_, zone_at ?_ q.zones⟩
  · simp [Period.bytes]
  · simp [consecutive]
  · rfl

/-- The four optional levels of a session allowance. -/
def allowanceLevels (a : Allowance) : List Byte := allZones.flatMap fun z => Machine.optional 2 ((a.ls.get z).map u16)

theorem allowanceBytes_eq (a : Allowance) : a.bytes = allowanceLevels a ++ u16 a.latestEnd := by
  simp [Allowance.bytes, allowanceLevels, allZones]

theorem length_allowanceLevels (a : Allowance) : (allowanceLevels a).length = 12 :=
  length_blocks (fun z => length_optional_u16 (a.ls.get z)) allZones

theorem length_allowanceBytes (a : Allowance) : a.bytes.length = 14 := by simp [allowanceBytes_eq, length_allowanceLevels]

theorem allowanceBytes_shown (a : Allowance) : a.shownBy a.bytes := by
  refine ⟨laidOut_mono (laidOut_of_consecutive (fields := [(0, allowanceLevels a), (12, u16 a.latestEnd)]) [] ?_
    (length_allowanceBytes a) ?_) (by simp), fun z => ?_⟩
  · simp [allowanceBytes_eq]
  · simp [consecutive, length_allowanceLevels]
  · rw [allowanceBytes_eq]
    exact block_of_flatMap (fun z => length_optional_u16 (a.ls.get z)) (getElem?_allZones z) (u16 a.latestEnd)

theorem sourceBytes_eq (l : Limits) : sourceBytes l = l.sourceShown := by
  unfold sourceBytes Limits.sourceShown
  cases l.source <;> rfl

theorem length_sourceShown (l : Limits) : l.sourceShown.length = 2 := by
  unfold Limits.sourceShown
  cases l.source <;> rfl

theorem length_schedHeader (s : State) (returned : Nat) : (schedHeader s returned).length = 13 := by
  simp [schedHeader, sourceBytes_eq, length_sourceShown]

/-- The header's fields, whatever follows it. -/
theorem schedHeader_laidOut (s : State) (returned : Nat) {rest : List Byte} {length : Nat} (hlength : 13 + rest.length = length) :
    laidOut (schedHeader s returned ++ rest) length [(0, timeBytes s.su.clock), (6, s.su.limits.sourceShown),
      (8, flag (s.su.limits.stop ≠ none)), (9, u8 s.settings.schedule.length), (10, u8 s.su.pendingList.length), (11, flag s.su.commit),
      (12, u8 returned)] := by
  refine laidOut_of_consecutive rest ?_ ?_ ?_
  · cases h : s.su.limits.stop <;> simp [schedHeader, sourceBytes_eq, h]
  · rw [List.length_append, length_schedHeader, hlength]
  · simp [consecutive, length_sourceShown]

/-- The records of a list of periods behind the header. -/
theorem periods_shown (s : State) (window : List Period) :
    laidOut (schedHeader s window.length ++ window.flatMap Period.bytes) (13 + 28 * window.length)
      [(0, timeBytes s.su.clock), (6, s.su.limits.sourceShown), (8, flag (s.su.limits.stop ≠ none)),
        (9, u8 s.settings.schedule.length), (10, u8 s.su.pendingList.length), (11, flag s.su.commit), (12, u8 window.length)] ∧
    ∀ (i : Nat) q, window[i]? = some q →
      q.shownBy (((schedHeader s window.length ++ window.flatMap Period.bytes).drop (13 + 28 * i)).take 28) := by
  refine ⟨schedHeader_laidOut s _ (by rw [length_blocks length_periodBytes]), fun i q h => ?_⟩
  have := block_at (rest := []) (length_schedHeader s window.length) length_periodBytes h
  rw [List.append_nil] at this
  exact this.symm ▸ periodBytes_shown q

theorem schedPayload_shown (s : State) (list : SchedList) (first : Nat) : s.scheduleShownBy list first (schedPayload s list first) := by
  cases list with
  | active => exact periods_shown s _
  | pending => exact periods_shown s _
  | fallback =>
    exact ⟨schedHeader_laidOut s 4 (by rw [length_zonesBytes]), zone_at (length_schedHeader s 4) s.settings.fallback⟩
  | allowance =>
    have hlength : 13 + (s.settings.allowance.bytes ++ s.su.pendingAllowance.bytes).length = 41 := by
      rw [List.length_append, length_allowanceBytes, length_allowanceBytes]
    unfold schedPayload
    rw [List.append_assoc]
    refine ⟨schedHeader_laidOut s 2 hlength, ?_, ?_⟩
    · rw [List.drop_left' (length_schedHeader s 2), List.take_left' (length_allowanceBytes _)]
      exact allowanceBytes_shown _
    · rw [← List.append_assoc, List.drop_left' (by rw [List.length_append, length_schedHeader, length_allowanceBytes])]
      exact allowanceBytes_shown _

/-! ### RECORD_READ (R166, R206) -/

/-- A record whose fields after the header are these, one after another. -/
theorem recordBytes_laidOut (r : Record) {length : Nat} {fields : List (Nat × List Byte)}
    (hb : r.body.fields = (fields.map Prod.snd).flatten) (hlength : 12 + r.body.fields.length = length) (h : consecutive 12 fields) :
    laidOut r.bytes length ([(0, u32 r.number), (4, u8 r.body.kind), (5, u8 length), (6, timeBytes r.stamp)] ++ fields) := by
  refine laidOut_of_consecutive [] ?_ ?_ ?_
  · rw [Record.bytes, hlength, hb]
    simp
  · rw [← hlength]
    simp [Record.bytes]
    omega
  · simpa [consecutive] using h

theorem recordBytes_shown (r : Record) : r.shownBy r.bytes := by
  obtain ⟨number, stamp, body⟩ := r
  cases body with
  | exceedanceStart k tier start limit => exact recordBytes_laidOut _ (by simp [RecordBody.fields]) rfl (by simp [consecutive])
  | exceedanceEnd k tier peak duration => exact recordBytes_laidOut _ (by simp [RecordBody.fields]) rfl (by simp [consecutive])
  | intervalSummary k laeq lceq laMax blind overload gap source =>
    exact recordBytes_laidOut _ (by simp [RecordBody.fields]) rfl (by simp [consecutive])
  | enforcement u change cause c last =>
    cases last with
    | blind => exact recordBytes_laidOut _ (by simp [RecordBody.fields, Second.bytes, Machine.optional]) rfl (by simp [consecutive])
    | seeing l => exact recordBytes_laidOut _ (by simp [RecordBody.fields, Second.bytes, Machine.optional]) rfl (by simp [consecutive])
  | schedule reason count =>
    exact recordBytes_laidOut _ (by cases reason <;> simp [RecordBody.fields]) rfl (by simp [consecutive])
  | sessionOpened slot fS => exact recordBytes_laidOut _ (by simp [RecordBody.fields]) rfl (by simp [consecutive])
  | sessionClosed slot fS cause =>
    exact recordBytes_laidOut _ (by cases cause <;> rfl) rfl (by simp [consecutive])
  | curfewApproach minute => exact recordBytes_laidOut _ (by simp [RecordBody.fields]) rfl (by simp [consecutive])
  | curfewStop minute => exact recordBytes_laidOut _ (by simp [RecordBody.fields]) rfl (by simp [consecutive])
  | sensorChannel c state => exact recordBytes_laidOut _ (by simp [RecordBody.fields]) rfl (by simp [consecutive])
  | sensorPoint k source => exact recordBytes_laidOut _ (by simp [RecordBody.fields]) rfl (by simp [consecutive])
  | access slot event code => exact recordBytes_laidOut _ (by simp [RecordBody.fields]) rfl (by simp [consecutive])
  | clock old new => exact recordBytes_laidOut _ (by simp [RecordBody.fields]) rfl (by simp [consecutive])
  | gap cause lost => exact recordBytes_laidOut _ (by simp [RecordBody.fields]) rfl (by simp [consecutive])

/-- What shows a record has the length its kind gives. -/
theorem length_of_recordShown {r : Record} {b c : List Byte} (hb : r.shownBy b) (hc : r.shownBy c) : b.length = c.length := by
  obtain ⟨number, stamp, body⟩ := r
  cases body <;> exact hb.1.trans hc.1.symm

/-- The records that fit are the first ones, they fit, and the next would not. -/
theorem fitting_spec (room : Nat) (list : List Record) : ∃ left, list = fitting room list ++ left ∧
    ((fitting room list).flatMap Record.bytes).length ≤ room ∧
    ∀ r, left.head? = some r → room < ((fitting room list).flatMap Record.bytes).length + r.bytes.length := by
  induction list generalizing room with
  | nil => exact ⟨[], rfl, Nat.zero_le _, by simp⟩
  | cons r rs ih =>
    rw [fitting]
    split
    case isTrue hfits =>
      obtain ⟨left, hsplit, hle, hnext⟩ := ih (room - r.bytes.length)
      refine ⟨left, congrArg (r :: ·) hsplit, ?_, fun x hx => ?_⟩
      · rw [List.flatMap_cons, List.length_append]
        omega
      · have := hnext x hx
        rw [List.flatMap_cons, List.length_append]
        omega
    case isFalse hlong =>
      refine ⟨r :: rs, rfl, Nat.zero_le _, fun x hx => ?_⟩
      obtain rfl : r = x := by simpa using hx
      simpa using hlong

theorem recordPayload_shown (q : RecordRing) (offset count : Nat) : q.shownBy offset count (recordPayload q offset count) := by
  obtain ⟨left, hsplit, hle, hnext⟩ := fitting_spec 123 ((q.list.drop offset).take count)
  have hlength : (recordPayload q offset count).length = 5 + ((recordsRead q.list offset count).flatMap Record.bytes).length := by
    simp only [recordPayload, List.length_append, length_u16, length_u8]
  refine ⟨recordsRead q.list offset count, left, (recordsRead q.list offset count).map Record.bytes, hsplit, ?_, ?_, ?_, ?_⟩
  · rw [List.forall₂_map_right_iff, List.forall₂_same]
    exact fun r _ => recordBytes_shown r
  · rw [recordPayload, List.flatMap_def]
  · rw [hlength, recordsRead]
    omega
  · intro r hr c hc
    have := hnext r hr
    rw [hlength, recordsRead, ← length_of_recordShown (recordBytes_shown r) hc]
    omega

/-! ### The notice part (R174, R205) -/

/-- The number whose bit is set at each place below `n` that a test holds of. -/
def maskBelow (test : Nat → Bool) (n : Nat) : Nat := ((List.range n).map fun i => if test i then 2 ^ i else 0).sum

theorem maskBelow_succ (test : Nat → Bool) (n : Nat) :
    maskBelow test (n + 1) = maskBelow test n + if test n then 2 ^ n else 0 := by
  simp [maskBelow, List.range_succ]

theorem maskBelow_lt (test : Nat → Bool) (n : Nat) : maskBelow test n < 2 ^ n := by
  induction n with
  | zero => simp [maskBelow]
  | succ n ih =>
    rw [maskBelow_succ, Nat.pow_succ]
    split <;> omega

theorem testBit_maskBelow (test : Nat → Bool) (n i : Nat) : (maskBelow test n).testBit i = (decide (i < n) && test i) := by
  induction n with
  | zero => simp [maskBelow]
  | succ n ih =>
    have hlt := maskBelow_lt test n
    rcases Nat.lt_trichotomy i n with h | rfl | h
    · have hi : decide (i < n + 1) = decide (i < n) := by simp [h, Nat.lt_succ_of_lt h]
      rw [hi, ← ih, maskBelow_succ]
      split
      · rw [Nat.add_comm, Nat.testBit_two_pow_add_gt h]
      · rfl
    · rw [maskBelow_succ]
      cases test i
      · simp [Nat.testBit_lt_two_pow hlt]
      · simp [Nat.add_comm, Nat.testBit_two_pow_add_eq, Nat.testBit_lt_two_pow hlt]
    · rw [Nat.testBit_lt_two_pow ((maskBelow_lt test (n + 1)).trans_le (Nat.pow_le_pow_right (by omega) h))]
      simp [Nat.not_lt.2 h]

theorem rank_lt (n : Notice) : n.rank < 10 := n.cls.rank.2

theorem classMask_masked (ns : List Notice) : ∃ m, classesMasked ns m ∧ classMask ns = u16 m := by
  refine ⟨maskBelow (fun i => ns.any (·.rank = i)) 10, ⟨maskBelow_lt _ 10, fun i => ?_⟩, rfl⟩
  rw [testBit_maskBelow]
  simp only [Bool.and_eq_true, decide_eq_true_eq, List.any_eq_true, idxOf_classValues]
  constructor
  · exact fun h => h.2
  · rintro ⟨n, hn, rfl⟩
    exact ⟨rank_lt n, n, hn, rfl⟩

theorem detail_eq (n : Notice) : n.detail = n.shown := by
  cases n with
  | schedule reason => cases reason <;> simp [Notice.detail, Notice.shown]
  | survey outcome u => cases outcome <;> simp [Notice.detail, Notice.shown]
  | _ => simp [Notice.detail, Notice.shown]

theorem length_detail (n : Notice) : n.detail.length = 3 := by cases n <;> rfl

theorem noticePart_shown (ns : List Notice) : noticeShownBy ns (noticePart ns) := by
  cases ns with
  | nil => rfl
  | cons n rest =>
    obtain ⟨m, hm, hmask⟩ := classMask_masked rest
    refine ⟨m, hm, laidOut_of_consecutive [] ?_ ?_ ?_⟩
    · simp [noticePart, hmask, detail_eq]
    · simp [noticePart, hmask, length_detail]
    · simp [consecutive, ← detail_eq, length_detail]

theorem length_noticePart (ns : List Notice) : (noticePart ns).length = 6 := by
  cases ns with
  | nil => rfl
  | cons n rest => simp [noticePart, classMask, length_detail]

/-! ### STATUS_READ (R73, R174, R181, R191) -/

/-- The nearer of two starts is one of them, and neither is nearer. -/
theorem nearer_spec (a : Option NextStop) (x : NextStop) :
    ∃ y, NextStop.nearer a x = some y ∧ (a = some y ∨ y = x) ∧ y.t ≤ x.t ∧ ∀ m, a = some m → y.t ≤ m.t := by
  cases a with
  | none => exact ⟨x, rfl, .inr rfl, le_rfl, by simp⟩
  | some z =>
    by_cases h : x.t < z.t
    · exact ⟨x, if_pos h, .inr rfl, le_rfl, by simpa using h.le⟩
    · exact ⟨z, if_neg h, .inl rfl, by omega, by simp⟩

/-- The nearest of some starts is one of them, and none is nearer; there is none only where there are no starts. -/
theorem foldl_nearer (l : List NextStop) (a : Option NextStop) :
    (l.foldl NextStop.nearer a = none ↔ a = none ∧ l = []) ∧
    ∀ n, l.foldl NextStop.nearer a = some n → (a = some n ∨ n ∈ l) ∧ ∀ m, a = some m ∨ m ∈ l → n.t ≤ m.t := by
  induction l generalizing a with
  | nil => simp +contextual
  | cons x xs ih =>
    obtain ⟨y, hy, hmem, hyx, hya⟩ := nearer_spec a x
    obtain ⟨hnone, hsome⟩ := ih (NextStop.nearer a x)
    rw [hy] at hnone hsome
    rw [List.foldl_cons, hy]
    refine ⟨by simp [hnone], fun n hn => ?_⟩
    obtain ⟨hin, hleast⟩ := hsome n hn
    have hny : n.t ≤ y.t := hleast y (.inl rfl)
    refine ⟨?_, fun m hm => ?_⟩
    · rcases hin with hin | hin
      · obtain rfl := Option.some.inj hin
        exact hmem.imp_right fun e => List.mem_cons.2 (.inl e)
      · exact .inr (List.mem_cons_of_mem _ hin)
    · rcases hm with hm | hm
      · exact hny.trans (hya m hm)
      · rcases List.mem_cons.1 hm with rfl | hm
        · exact hny.trans hyx
        · exact hleast m (.inr hm)

/-- The starts of the STOP periods that lie within the hour (R73). -/
theorem mem_stopsAhead {ps : List Period} {u : Nat} {n : NextStop} : n ∈ stopsAhead ps u ↔ ∃ q ∈ ps, q.kind = .stop ∧
    n.t = (q.start * 60 + 86400 - u) % 86400 ∧ 1 ≤ n.t ∧ n.t ≤ 3600 ∧ n.ramp = q.ramp ∧ n.minute = q.start := by
  rw [stopsAhead, List.mem_filterMap]
  refine exists_congr fun q => and_congr_right fun _ => ?_
  obtain ⟨t, ramp, minute⟩ := n
  simp only [Option.ite_none_right_eq_some, Option.some.injEq, NextStop.mk.injEq]
  constructor
  · rintro ⟨⟨hk, h1, h2⟩, rfl, rfl, rfl⟩
    exact ⟨hk, rfl, h1, h2, rfl, rfl⟩
  · rintro ⟨hk, rfl, h1, h2, rfl, rfl⟩
    exact ⟨⟨hk, h1, h2⟩, rfl, rfl, rfl⟩

/-- R73: the answer is that of the rule, by whether the clock is valid and STOP in force. -/
theorem curfewInfo_is (s : State) : s.curfewIs s.curfewInfo := by
  unfold State.curfewIs State.curfewInfo
  by_cases hoff : (!s.su.clock.valid || s.su.limits.stop.isSome) = true
  · rw [if_pos hoff]
    simp only [Bool.or_eq_true, Bool.not_eq_true', Option.isSome_iff_ne_none] at hoff
    refine ⟨?_, fun _ => rfl, fun hv hs => ?_⟩
    · simp [Option.isSome_iff_ne_none, and_comm]
    · rcases hoff with h | h
      · exact absurd (h.symm.trans hv) Bool.false_ne_true
      · exact absurd h hs
  · rw [if_neg hoff]
    simp only [Bool.or_eq_true, Bool.not_eq_true', Option.isSome_iff_ne_none, not_or, Bool.not_eq_false] at hoff
    obtain ⟨hv, hs⟩ := hoff
    obtain ⟨hnone, hsome⟩ := foldl_nearer (stopsAhead s.settings.schedule s.su.clock.secs) none
    refine ⟨by simp [hs], fun h => ?_, fun _ _ => ⟨?_, fun n hn => ?_⟩⟩
    · rcases h with h | h
      · exact absurd (h.symm.trans hv) Bool.false_ne_true
      · exact absurd h hs
    · simp only [hnone, true_and, List.eq_nil_iff_forall_not_mem, mem_stopsAhead]
      constructor
      · rintro h q t ⟨hq, hk, ht, h1, h2⟩
        exact h ⟨t, q.ramp, q.start⟩ ⟨q, hq, hk, ht, h1, h2, rfl, rfl⟩
      · rintro h n ⟨q, hq, hk, ht, h1, h2, -, -⟩
        exact h q n.t ⟨hq, hk, ht, h1, h2⟩
    · obtain ⟨hin, hleast⟩ := hsome n hn
      obtain ⟨q, hq, hk, ht, h1, h2, hr, hm⟩ := mem_stopsAhead.1 (hin.resolve_left (by simp))
      refine ⟨⟨q, ⟨hq, hk, ht, h1, h2⟩, hr, hm⟩, ?_⟩
      rintro x t ⟨hx, hkx, htx, h1x, h2x⟩
      exact hleast ⟨t, x.ramp, x.start⟩ (.inr (mem_stopsAhead.2 ⟨x, hx, hkx, htx, h1x, h2x, rfl, rfl⟩))

theorem turnSlot_eq_some {l : Link} {j : SlotId} :
    l.turnSlot = some j ↔ l = .turn j true ∨ l = .turn j false ∨ l = .responding j := by
  cases l with
  | turn k b => cases b <;> simp [Link.turnSlot]
  | _ => simp [Link.turnSlot]

theorem parkedSlot_eq_some {l : Link} {j : SlotId} : l.parkedSlot = some j ↔ l = .free (some j) := by
  cases l <;> simp [Link.parkedSlot]

/-- The arbiter's state of a slot as it is sent (R181). -/
theorem stateOf_coded (a : Arbiter) (j : SlotId) : u8 (a.stateOf j).code =
    if (a.slots.get j).broken = true then [4]
    else if a.link = .turn j true ∨ a.link = .turn j false ∨ a.link = .responding j then [2]
    else if a.link = .free (some j) then [3]
    else if (a.slots.get j).line = true then [1] else [0] := by
  simp only [Arbiter.stateOf, turnSlot_eq_some, parkedSlot_eq_some, apply_ite ArbState.code, apply_ite u8]
  rfl

theorem length_slotBytes (s : State) (j : SlotId) : (slotBytes s j).length = 6 := by
  unfold slotBytes
  dsimp only
  cases (s.settings.stations.get j).role <;> rfl

theorem slotBytes_shown (s : State) (j : SlotId) : s.slotShownBy j (slotBytes s j) := by
  unfold State.slotShownBy
  dsimp only
  rw [← stateOf_coded]
  refine laidOut_of_consecutive [] ?_ (length_slotBytes s j) ?_
  · unfold slotBytes
    dsimp only
    cases (s.settings.stations.get j).role <;> simp [Role.code, Role.stageBytes, Machine.optional, u8]
  · cases (s.settings.stations.get j).role <;> simp [consecutive]

theorem flag_ne_none {α : Type} (x : Option α) [Decidable (x ≠ none)] : flag (decide (x ≠ none)) = flag x.isSome := by
  cases x <;> simp

theorem length_sessionGroup (frames : Nat) (x : Option Session) :
    (Machine.optional 10 (x.map fun q => u16 q.endMinute ++ (u32 q.fS ++ u32 frames))).length = 11 :=
  length_optional (fun _ => by simp) x

/-- The summary up to the slots. -/
def summaryHead (s : State) : List Byte :=
  timeBytes s.su.clock ++ sessionBytes s ++ flag s.curfewInfo.stop ++ Machine.optional 2 (s.curfewInfo.seconds.map u16) ++
    flag s.ae.approach.isSome ++ flag s.su.commit ++ sourceBytes s.su.limits ++ u8 s.cs.state.code ++ u8 s.cs.stage.1 ++
    (allStages.flatMap fun t => flag (s.gu.grants.get t).holdLine) ++ flag s.isSaving ++ u16 s.rr.list.length ++ u16 s.rr.lost

theorem summaryBytes_eq (s : State) : summaryBytes s = summaryHead s ++ allSlots.flatMap (slotBytes s) := rfl

theorem length_summaryHead (s : State) : (summaryHead s).length = 37 := by
  simp only [summaryHead, sessionBytes, sourceBytes_eq, List.append_assoc, List.length_append, length_timeBytes, length_flag,
    length_sessionGroup, length_optional_u16, length_sourceShown, length_u8, length_u16, length_blocks fun t => length_flag (s.gu.grants.get t).holdLine]
  rfl

theorem length_allSlots (s : State) : (allSlots.flatMap (slotBytes s)).length = 48 := length_blocks (length_slotBytes s) allSlots

theorem statusPayload_shown (s : State) (ns : List Notice) : s.statusShownBy ns (summaryBytes s ++ noticePart ns) := by
  have hseconds : (s.curfewInfo.next.map fun n => u16 n.t) = s.curfewInfo.seconds.map u16 := by
    simp [CurfewInfo.seconds, Function.comp_def]
  refine ⟨s.curfewInfo, Bank.tabulate fun u => (s.gu.grants.get u).holdLine, curfewInfo_is s, fun u => ?_, ?_, fun j => ?_, ?_⟩
  · rw [Bank.get_tabulate]
    exact holdLine_iff _
  · rw [hseconds]
    refine laidOut_of_consecutive (allSlots.flatMap (slotBytes s) ++ noticePart ns) ?_ ?_ ?_
    · rw [summaryBytes_eq, List.append_assoc]
      refine congrArg (· ++ _) ?_
      simp only [flag_ne_none, Bank.get_tabulate]
      simp [summaryHead, sessionBytes, sourceBytes_eq, allStages, State.sessionIsOpen, State.isSaving]
    · simp only [summaryBytes_eq, List.length_append, length_summaryHead, length_allSlots, length_noticePart]
    · simp [consecutive, length_sessionGroup, length_sourceShown]
  · rw [summaryBytes_eq, List.append_assoc, block_at (length_summaryHead s) (length_slotBytes s) (getElem?_allSlots j)]
    exact slotBytes_shown s j
  · rw [List.drop_left' (by rw [summaryBytes_eq, List.length_append, length_summaryHead, length_allSlots])]
    exact noticePart_shown ns

/-! ### The statement -/

/-- An owner that answers OK with a payload on the state as it stands answers so on the wire. -/
theorem serve_payload {s w v : State} {k : SlotId} {r : Request} {params b : List Byte} {owner : Owner} (hw : s.admits k r params w)
    (ho : owner k params w = ok b v) : whenPowered s (serve r owner params) = .next (respond k ⟨.ok, b⟩ v) := by
  rw [serve_next owner hw, ho]
  rfl

/-- Settles O50: each owner answers with its payload on the state as it stands, and each payload is laid out as its rules say. -/
theorem readsChangeNothing : Obligations.ReadsChangeNothing := by
  refine ⟨⟨fun n => u8_value, fun n => u16_value, fun n => u32_value, fun n => u64_value, fun x => i16_value, rfl, fun x => rfl, rfl,
    rfl, fun width => ?_, fun width v => rfl, timeBytes_eq⟩, fun s w k params => ?_⟩
  · simp [Machine.optional, Nat.add_comm, List.replicate_succ]
  dsimp only
  refine ⟨fun hw part hr => ?_, fun hw u hr => ?_, fun hw => ?_, fun hw list first hr => ?_, fun hw offset count hr => ?_,
    fun hw u hr => ?_, fun hw => ?_⟩
  all_goals obtain ⟨la, rfl⟩ : ∃ la, w = { s with la := la } := ⟨w.la, taken_eq hw.2.1⟩
  · exact ⟨_, levelsPayload_shown s hr, serve_payload hw (by rw [ownerLevelsRead, hr]; rfl)⟩
  · exact ⟨_, couplingPayload_shown s.settings u, serve_payload hw (by rw [ownerCouplingRead, hr])⟩
  · exact ⟨_, surveyPayload_shown s.cs, serve_payload hw rfl⟩
  · exact ⟨_, schedPayload_shown s list first, serve_payload hw (by rw [ownerSchedRead, hr]; rfl)⟩
  · exact ⟨_, recordPayload_shown s.rr offset count, serve_payload hw (by rw [ownerRecordRead, hr])⟩
  · exact ⟨_, grantPayload_shown s.gu u, serve_payload hw (by rw [ownerGrantQuery, hr])⟩
  · exact ⟨_, statusPayload_shown _ _, serve_payload hw rfl⟩

end Sys2Proof.Proofs.Reads
end

section
/-!
The requests that write a table of the settings (R91, R117, R171, R184), and those of the survey (R95, R105, R107, R108). What a request
answers is read off its owner: the first condition that holds turns it down, and past the last one the owner's state stands.
-/

namespace Sys2Proof.Proofs.SurveyAndTables

open Sys2Proof Sys2Proof.Machine
open Sys2Proof.Proofs.Reads (serve_payload)

/-! ### The conditions of the requests -/

@[simp] theorem sessionIsOpen_iff (s : State) : s.sessionIsOpen = true ↔ s.su.session ≠ none := Option.isSome_iff_ne_none

@[simp] theorem isSaving_iff (s : State) : s.isSaving = true ↔ s.st.saving ≠ none := Option.isSome_iff_ne_none

@[simp] theorem running_iff (v : Survey) : v.running = true ↔ v.state = .quiet ∨ v.state = .signal := by
  simp [Survey.running]

theorem enabledShares_eq (stages : Bank 4 StageSettings) (x : Bank 4 Nat) :
    enabledShares stages x = ((allStages.filter fun u => (stages.get u).enabled).map fun u => x.get u).sum := by
  rw [enabledShares, List.sum_map_ite]
  simp

/-! ### The channel of a binding (R25) -/

theorem binding_of_holder {g : Settings} {b : Binding} {c : ChannelId} (h : g.holder b = some c) :
    (g.channelMap.get c).binding = b := by
  simpa using List.find?_some h

theorem holder_of_binding {g : Settings} {c : ChannelId} (hd : g.bindingsDistinct) (hc : (g.channelMap.get c).binding ≠ .unused) :
    g.holder (g.channelMap.get c).binding = some c := by
  cases h : g.holder (g.channelMap.get c).binding with
  | none => exact absurd (List.find?_eq_none.1 h c (mem_allChannels c)) (by simp)
  | some d => rw [hd c d (binding_of_holder h).symm hc]

/-- Where no channel of a binding is LIVE, its holder is not. -/
theorem isLive_holder_of_none {s : State} {b : Binding}
    (h : ∀ c ∈ allChannels, (s.settings.channelMap.get c).binding = b → (s.sp.get c).state ≠ .live) :
    s.isLive (s.settings.holder b) = false := by
  cases hb : s.settings.holder b with
  | none => rfl
  | some c => simpa [State.isLive] using h c (mem_allChannels c) (binding_of_holder hb)

/-- Where a channel of a binding is LIVE, it is the one holder (R25). -/
theorem isLive_holder_of_live {s : State} {b : Binding} (hd : s.settings.bindingsDistinct) (hb : b ≠ .unused)
    (h : ¬ ∀ c ∈ allChannels, (s.settings.channelMap.get c).binding = b → (s.sp.get c).state ≠ .live) :
    s.isLive (s.settings.holder b) = true := by
  push Not at h
  obtain ⟨c, -, rfl, hlive⟩ := h
  simpa [State.isLive, holder_of_binding hd hb] using hlive

/-! ### Answers -/

section
variable {s w : State} {k : SlotId} {r : Request} {params : List Byte} {owner : Owner}

/-- A request that its owner turns down is answered so, and changes nothing. -/
theorem serve_turnDown {st : Status} (hw : s.admits k r params w) (ho : owner k params w = turnDown st w) :
    whenPowered s (serve r owner params) = .next (respond k ⟨st, []⟩ w) := by
  rw [serve_next owner hw, ho]
  rfl

/-- Where the first condition that an owner judges holds, the request is turned down; what is left is its answer past that
condition. -/
theorem serve_guard {st : Status} {c : Prop} [Decidable c] {a : State × Response} {P : Prop} (hw : s.admits k r params w)
    (ho : owner k params w = if c then turnDown st w else a) (h : owner k params w = a → P) :
    if c then whenPowered s (serve r owner params) = .next (respond k ⟨st, []⟩ w) else P := by
  split
  case isTrue hc => exact serve_turnDown hw (ho.trans (if_pos hc))
  case isFalse hc => exact h (ho.trans (if_neg hc))

/-- A request that its owner turns down BUSY during a save and otherwise answers on new settings (R195). -/
theorem serve_unlessSaving {g : Settings} (hw : s.admits k r params w)
    (ho : owner k params w = if w.isSaving then turnDown .busy w else ok [] (w.withSettings g)) :
    if s.st.saving = none then whenPowered s (serve r owner params) = .next (respond k okEmpty { w with settings := g })
    else whenPowered s (serve r owner params) = .next (respond k ⟨.busy, []⟩ w) := by
  have hst : w.st = s.st := by rw [taken_eq hw.2.1]
  split
  case isTrue hs => exact serve_payload hw (ho.trans (if_neg (by simp [hst, hs])))
  case isFalse hs => exact serve_turnDown hw (ho.trans (if_pos (by simp [hst, hs])))

end

/-! ### The tables -/

/-- Settles O55: each owner judges its request, then a save, and writes one table of the settings. -/
theorem tableWritesReplaceOneEntry : Obligations.TableWritesReplaceOneEntry := by
  intro s w k params
  dsimp only
  refine ⟨fun hw x hr => ?_, fun hw u j x hr => ?_, fun hw c m hr => ?_, fun hw g hr => ?_⟩
  all_goals obtain ⟨la, rfl⟩ : ∃ la, w = { s with la := la } := ⟨w.la, taken_eq hw.2.1⟩
  · rw [← enabledShares_eq]
    refine ⟨fun hle => ?_, fun hlt => ?_⟩
    · refine ⟨s.settings.stages.renew fun u q => { q with share := x.get u }, serve_unlessSaving hw ?_, fun u => by simp⟩
      simp [ownerShareWrite, hr, Nat.not_lt.2 hle]
    · exact serve_turnDown hw (by simp [ownerShareWrite, hr, hlt])
  · refine ⟨fun hs => serve_unlessSaving hw ?_, fun hs => serve_turnDown hw ?_⟩
    · simp [ownerCouplingWrite, hr, hs, Settings.setCoupling]
    · simp [ownerCouplingWrite, hr, hs]
  · exact serve_unlessSaving hw (by simp only [ownerDispatchWrite, hr])
  · exact serve_unlessSaving hw (by simp only [ownerArbWrite, hr])

/-! ### The survey's record -/

/-- The survey back in IDLE holds nothing of its run (R106). -/
theorem started_cleared (v : Survey) : v.cleared.started := by
  simp [Survey.started, Survey.cleared, Survey.afterReset, PhaseSum.zero]

/-- The accepted entry of a pair: the code that the survey resolved, or else the entry before (R107). -/
theorem acceptResults_entry (g : Settings) (t u : StageId) (j : PointId) (r : SurveyResults) :
    ((g.acceptResults t r).coupling.get u).get j =
      (if u = t then (r.points.get j).code else none).or ((g.coupling.get u).get j) := by
  by_cases h : u = t
  · subst h
    simp [Settings.acceptResults]
  · simp [Settings.acceptResults, Bank.get_set_ne _ _ h, h]

/-- The abandonment of a survey tells its SURVEY notice alone (R104). -/
theorem abandonSurvey_tells (why : SurveyReason) (s : State) :
    s.tells (abandonSurvey why s) [] [.survey (some why) s.cs.stage] := by
  have hcs : s.tells { s with cs := { s.cs with state := .aborted, reason := some why } } [] [] :=
    ⟨rfl, by rw [ringNotice_self]; rfl⟩
  exact hcs.trans (post_tells _ _) rfl rfl (by simp [Notice.cls])

/-! ### The survey's requests -/

/-- What SURVEY_START's owner answers, its parameters being read (R95). -/
theorem ownerSurveyStart_of_read {params : List Byte} {u : StageId} {d level : Nat} (k : SlotId) (s : State)
    (hr : readSurvey params = some (u, d, level)) :
    ownerSurveyStart k params s =
      if level < (s.settings.stages.get u).floor ∨ (s.settings.stages.get u).top < level then turnDown .param s
      else if s.su.session ≠ none then turnDown (.state .sessionOpen) s
      else if s.cs.state = .quiet ∨ s.cs.state = .signal then turnDown (.state .survey) s
      else if (s.settings.stages.get u).enabled = false then turnDown (.state .stageDisabled) s
      else if s.isLive (s.settings.holder (.reference u)) = false then turnDown (.state .reference) s
      else ok [] { s with cs := startedSurvey u d level } := by
  simp [ownerSurveyStart, hr]

/-- Settles O56: the owners judge the conditions in the order of the rules, and past them only the survey, its
stage's row and its notice change. -/
theorem surveyRequestsTakeEffect : Obligations.SurveyRequestsTakeEffect := by
  intro s w k params
  dsimp only
  refine ⟨fun hw u d level hr => ?_, fun hw => ?_, fun hw => ?_, fun hw => ?_⟩
  all_goals obtain ⟨la, rfl⟩ : ∃ la, w = { s with la := la } := ⟨w.la, taken_eq hw.2.1⟩
  · refine serve_guard hw (ownerSurveyStart_of_read k _ hr) fun ho => ?_
    refine serve_guard hw ho fun ho => ?_
    refine serve_guard hw ho fun ho => ?_
    refine serve_guard hw ho fun ho => ?_
    split
    case isTrue hdead => exact serve_turnDown hw (ho.trans (if_pos (isLive_holder_of_none hdead)))
    case isFalse hdead =>
      intro hd
      have hlive := isLive_holder_of_live hd (by simp) hdead
      exact serve_payload hw (ho.trans (if_neg (Bool.ne_false_iff.2 hlive)))
  · refine ⟨fun hrun => ?_, fun hrun => serve_turnDown hw (by simp [ownerSurveyAbort, hrun])⟩
    exact ⟨_, serve_payload hw (if_pos (by simp [hrun])), rfl, abandonSurvey_tells .operator _, rfl⟩
  · refine ⟨fun h => ?_, fun h hs => ?_, fun h hs hsave => ?_, fun r h hs hsave hres => ?_⟩
    · exact serve_turnDown hw (by simp [ownerSurveyAccept, h])
    · exact serve_turnDown hw (by simp [ownerSurveyAccept, h, hs])
    · exact serve_turnDown hw (by simp [ownerSurveyAccept, h, hs, hsave])
    · refine ⟨{ s with la := la, settings := s.settings.acceptResults s.cs.stage r, cs := s.cs.cleared }, serve_payload hw ?_,
        ⟨started_cleared _, rfl, rfl, rfl⟩, rfl, fun u j => ?_, rfl⟩
      · simp [ownerSurveyAccept, h, hs, hsave, hres]
      · rw [acceptResults_entry]
        cases (if u = s.cs.stage then (r.points.get j).code else none) <;> rfl
  · refine ⟨fun h => ?_, fun hdone haborted => serve_turnDown hw (by simp [ownerSurveyDiscard, hdone, haborted])⟩
    exact ⟨_, serve_payload hw (if_pos h), ⟨started_cleared _, rfl, rfl, rfl⟩, rfl⟩

end Sys2Proof.Proofs.SurveyAndTables
end

section
/-!
What reports leave of the state, and the start of a pass (06_the_allocation_pass.md: R110, R124, R129) with the step that makes it.
-/

namespace Sys2Proof.Proofs.PassStart

open Sys2Proof Sys2Proof.Machine
open Sys2Proof.Proofs.Reads (curfewInfo_is)

/-! ### Reports -/

theorem offer_frame (b : RecordBody) (s : State) : offer b s = { s with rr := (offer b s).rr, nu := (offer b s).nu } := by
  rcases offer_cases s b with h | ⟨_, _, h⟩ <;> rw [h] <;> rfl

/-- A report changes the ring and the notice unit alone (R163, R172). -/
theorem report_frame (r : Report) (s : State) : report r s = { s with rr := (report r s).rr, nu := (report r s).nu } := by
  have h := offer_frame r.body s
  unfold report
  dsimp only
  split
  · exact h
  · rw [h]
    rfl

theorem reportAll_frame (rs : List Report) (s : State) :
    reportAll rs s = { s with rr := (reportAll rs s).rr, nu := (reportAll rs s).nu } := by
  induction rs generalizing s with
  | nil => rfl
  | cons r rs ih =>
    have h := ih (report r s)
    rw [report_frame r s] at h
    rw [show reportAll (r :: rs) s = reportAll rs (report r s) from rfl, report_frame r s]
    exact h

/-- Where the ring and the sets stand, nothing is told. -/
theorem tells_nothing {s t : State} (hr : t.rr = s.rr) (hn : t.nu = s.nu) : s.tells t [] [] :=
  ⟨hr, by rw [hr, ringNotice_self]; exact hn⟩

/-- What several postings leave rests on who is reached and on the sets alone. -/
theorem posted_of_reaches {s t : State} (hg : ∀ n k, t.settings.reaches n k = s.settings.reaches n k) (hn : t.nu = s.nu)
    (ns : List Notice) : t.posted ns = s.posted ns := by
  induction ns generalizing s t with
  | nil => exact hn
  | cons n ns ih => exact ih (by simpa using hg) (Bank.ext_get fun k => by simp [hg, hn])

/-- What is told from a state with the same ring, sets, clock, stations and threshold is told from the state itself. -/
theorem tells_from {s m t : State} {bs : List RecordBody} {ns : List Notice} (h : m.tells t bs ns)
    (hg : ∀ n k, m.settings.reaches n k = s.settings.reaches n k)
    (ht : m.settings.timing.threshold = s.settings.timing.threshold) (hc : m.su.clock = s.su.clock) (hr : m.rr = s.rr)
    (hn : m.nu = s.nu) : s.tells t bs ns := by
  obtain ⟨hrr, hnu⟩ := h
  have hring : m.ringNotice t.rr = s.ringNotice t.rr := by simp only [State.ringNotice, ht, hr]
  exact ⟨by rw [hrr, hr, hc], by rw [hnu, hring, posted_of_reaches hg hn]⟩

/-! ### The inputs of a pass -/

theorem loud_iff (x : Second) (l : Nat) : x.loud l = true ↔ ∃ y, x = .seeing y ∧ l ≤ y := by
  cases x <;> simp [Second.loud]

theorem target_publishes (v : Survey) : v.publishes v.target := by
  unfold Survey.publishes Survey.target
  exact ⟨fun h => if_pos h, fun h => if_neg h⟩

/-- The approach is open within the ramp of the next STOP start (R128, R129). -/
theorem approaching_eq_some {c : CurfewInfo} {n : NextStop} :
    c.approaching = some n ↔ c.next = some n ∧ 1 ≤ n.ramp ∧ n.t ≤ n.ramp * 60 := by
  simp [CurfewInfo.approaching, Option.filter_eq_some_iff]

/-- The activity of a stage as its second is taken (R124). -/
theorem nextActivity_spec (g : Settings) (snap : Snapshot) (old : Bank 4 (Option Activity)) (u : StageId) :
    let q := g.stages.get u
    let a := (old.get u).getD ⟨false, 0⟩
    let new := (nextActivity g snap old).get u
    (q.enabled = false → new = none) ∧
    (q.enabled = true →
      ((snap.stages.get u).second = .blind ∨ snap.atLeast u q.idle → new = some ⟨false, 0⟩) ∧
      ∀ l, (snap.stages.get u).second = .seeing l → l < q.idle →
        (a.idle = true → new = some ⟨true, 10⟩) ∧
        (a.idle = false → new = some ⟨decide (10 ≤ a.quiet + 1), a.quiet + 1⟩)) := by
  simp only [nextActivity, Bank.get_renew, Snapshot.atLeast]
  refine ⟨fun h => by simp [h], fun h => ⟨?_, fun l hl hlow => ?_⟩⟩
  · rintro (hb | ⟨l, hl, hle⟩)
    · simp [h, hb, Activity.update]
    · simp [h, hl, hle, Activity.update]
  · have : ¬ (g.stages.get u).idle ≤ l := by omega
    constructor <;> intro hidle <;> simp [h, hl, this, hidle, Activity.update]

/-- The report of an approach minute (R129). -/
def approachReport (m : Nat) : Report := ⟨.curfewApproach m, some (.curfewApproach m)⟩

/-- An approach is reported where its minute is new (R129). -/
theorem approachReports_eq (old new : Option Nat) :
    approachReports old new = (if new = old then [] else new.toList).map approachReport := by
  cases new with
  | none => cases old <;> rfl
  | some m =>
    unfold approachReports
    by_cases h : old = some m
    · simp [h]
    · simp [h, Ne.symm h, approachReport]

theorem reportAll_approach_tells (ms : List Nat) (s : State) :
    s.tells (reportAll (ms.map approachReport) s) (ms.map .curfewApproach) (ms.map .curfewApproach) := by
  have h := reportAll_tells (ms.map approachReport) s (by simp [approachReport, Notice.cls])
  simpa [Function.comp_def, approachReport, List.filterMap_map] using h

/-! ### The start of a pass -/

/-- The engine takes the snapshot as R110 has it, and an approach newly open is told (R129). -/
theorem startPass_passStarts (s : State) (snap : Snapshot) : s.passStarts (startPass snap s) snap := by
  refine ⟨⟨s.cs.target, target_publishes _, ?_⟩, ?_, ?_⟩
  · refine ⟨_, by simp only [startPass, reportAll_ae]; rfl, ?_⟩
    simp only [startPass, reportAll_ae, Bank.get_renew, Bank.get_fill, and_true, true_and, implies_true]
    refine ⟨curfewInfo_is s, fun u => nextActivity_spec .., fun m => ?_, ?_⟩
    · simp [approaching_eq_some, and_assoc, @eq_comm _ m]
    · simp [Option.isSome_iff_ne_none]
  · unfold startPass
    simp only [reportAll_ae, approachReports_eq]
    exact tells_from (reportAll_approach_tells _ _) (fun _ _ => rfl) rfl rfl rfl rfl
  · unfold startPass
    exact (reportAll_frame _ _).trans (by simp)

/-- Settles O1: a step is `exec` of the front command on the queue's rest; on an empty queue it is the idle step. -/
theorem stepRunsFrontCommand : Obligations.StepRunsFrontCommand := by
  refine ⟨fun c rest s => step_front _ c rest rfl, fun s hs => ⟨fun snap hon hpass hsnap => ?_, fun h => ?_⟩⟩
  · refine ⟨startPass snap s, ?_, startPass_passStarts s snap⟩
    rw [step_empty s hs, idle, if_pos hon, startWaiting, hpass, hsnap]
  · rw [step_empty s hs]
    rcases idle_cases s with ⟨hon, hidle⟩ | ⟨_, hidle⟩
    · rcases startWaiting_cases s with ⟨snap, hpass, hsnap, _⟩ | ⟨_, hstay⟩
      · simp [hon, hpass, hsnap] at h
      · rw [hidle, hstay]
    · rw [hidle]

end Sys2Proof.Proofs.PassStart
end

section
/-!
What a step can do to the stage records, the store and the grant records (06_the_allocation_pass.md, 07_stage_grants_and_enforcement.md,
10_stored_settings_and_start_up.md). Most of the part leaves all three as they are, but for the session flags: `stageCore`. What is
left are the moves of `StageMove`: `step_moves` says once that a step is made of them.
-/

namespace Sys2Proof.Proofs.StageMoves

open Sys2Proof Sys2Proof.Machine
open Sys2Proof.Proofs.PassStart

/-! ### What most operations leave -/

/-- The stage records in use, the store, and the grant records without their session flags. -/
def stageCore (s : State) : Bank 4 StageSettings × Store × (StageId → Grant) :=
  (s.settings.stages, s.st, fun u => { s.gu.grants.get u with session := false })

section
variable (s : State)

/-- Whatever changes beside the settings, the grant unit and the store. -/
@[simp] theorem stageCore_frame (powered : Bool) (sp : Bank 16 Channel) (pm : PointMap) (ei : Integrator) (su : ScheduleUnit)
    (cs : Survey) (ae : Engine) (rr : RecordRing) (nu : Bank 8 NoticeSlot) (la : Arbiter) (draws : Nat) (queue : List Instr) :
    stageCore ⟨powered, s.settings, sp, pm, ei, su, cs, ae, s.gu, rr, nu, la, s.st, draws, queue⟩ = stageCore s := rfl

/-- The same where settings other than the stage records change too. -/
@[simp] theorem stageCore_settings (powered : Bool) (sp : Bank 16 Channel) (pm : PointMap) (ei : Integrator) (su : ScheduleUnit)
    (cs : Survey) (ae : Engine) (rr : RecordRing) (nu : Bank 8 NoticeSlot) (la : Arbiter) (draws : Nat) (queue : List Instr)
    (channelMap : Bank 16 MapEntry) (points : Bank 8 PointSettings) (coupling : Bank 4 (Bank 8 (Option Int)))
    (schedule : List Period) (allowance : Allowance) (fallback : Bank 4 ZoneLimits) (stations : Bank 8 Station)
    (dispatch : Bank 10 RoleMask) (arbiter : ArbiterSettings) (timing : Timing) :
    stageCore ⟨powered, ⟨channelMap, points, s.settings.stages, coupling, schedule, allowance, fallback, stations, dispatch, arbiter,
      timing⟩, sp, pm, ei, su, cs, ae, s.gu, rr, nu, la, s.st, draws, queue⟩ = stageCore s := rfl

/-- The same where the session flags follow a session (R135). -/
@[simp] theorem stageCore_mirror (powered flag : Bool) (sp : Bank 16 Channel) (pm : PointMap) (ei : Integrator) (su : ScheduleUnit)
    (cs : Survey) (ae : Engine) (rr : RecordRing) (nu : Bank 8 NoticeSlot) (la : Arbiter) (draws : Nat) (queue : List Instr) :
    stageCore ⟨powered, s.settings, sp, pm, ei, su, cs, ae, s.gu.mirror flag, rr, nu, la, s.st, draws, queue⟩ = stageCore s := by
  simp [stageCore, GrantUnit.mirror]

/-- Several operations in order, none of which touches the core. -/
theorem stageCore_foldl {α : Type} {f : State → α → State} (hf : ∀ s a, stageCore (f s a) = stageCore s) (l : List α) :
    stageCore (l.foldl f s) = stageCore s := by
  induction l generalizing s with
  | nil => rfl
  | cons a l ih => exact (ih (f s a)).trans (hf s a)

/-! ### Records and notices -/

@[simp] theorem stageCore_post (n : Notice) : stageCore (post n s) = stageCore s := rfl
@[simp] theorem stageCore_offerQuiet (b : RecordBody) : stageCore (offerQuiet b s) = stageCore s := rfl
@[simp] theorem stageCore_offer (b : RecordBody) : stageCore (offer b s) = stageCore s := by simp [stageCore]
@[simp] theorem stageCore_report (r : Report) : stageCore (report r s) = stageCore s := by simp [stageCore]
@[simp] theorem stageCore_reportAll (rs : List Report) : stageCore (reportAll rs s) = stageCore s := by simp [stageCore]
@[simp] theorem stageCore_reportEither (as bs : List Report) : stageCore (reportEither as bs s) = stageCore s := by simp [stageCore]
@[simp] theorem stageCore_offerAllQuiet (bs : List RecordBody) : stageCore (offerAllQuiet bs s) = stageCore s := by simp [stageCore]

/-! ### The survey and the engine -/

@[simp] theorem stageCore_abandonSurvey (why : SurveyReason) : stageCore (abandonSurvey why s) = stageCore s := by
  simp [abandonSurvey]
@[simp] theorem stageCore_surveyLosesReference (u : StageId) : stageCore (surveyLosesReference u s) = stageCore s := by
  unfold surveyLosesReference; split <;> simp
@[simp] theorem stageCore_surveySnapshot (snap : Snapshot) : stageCore (surveySnapshot snap s) = stageCore s := by simp [stageCore]
@[simp] theorem stageCore_startWaiting : stageCore (startWaiting s) = stageCore s := by simp [stageCore]
@[simp] theorem stageCore_handOver (snap : Snapshot) : stageCore (handOver snap s) = stageCore s := by simp [stageCore]
@[simp] theorem stageCore_idle : stageCore (idle s) = stageCore s := by unfold idle; split <;> simp

/-! ### The sensor ports and the map (R15 to R32) -/

@[simp] theorem stageCore_setChannel (c : ChannelId) (x : Channel) : stageCore (s.setChannel c x) = stageCore s := rfl
@[simp] theorem stageCore_setRef (u : StageId) (x : RefView) : stageCore (s.setRef u x) = stageCore s := rfl
@[simp] theorem stageCore_setView (k : PointId) (x : PointView) : stageCore (s.setView k x) = stageCore s := rfl
@[simp] theorem stageCore_setSource (k : PointId) : stageCore (setSource k s) = stageCore s := by simp [setSource]
@[simp] theorem stageCore_reselect (k : PointId) : stageCore (reselect k s) = stageCore s := by simp [reselect]
@[simp] theorem stageCore_reevaluate (u : StageId) : stageCore (reevaluate u s) = stageCore s := by
  unfold reevaluate; dsimp only; split <;> simp
@[simp] theorem stageCore_followBinding (b : Binding) : stageCore (followBinding b s) = stageCore s := by
  cases b <;> simp [followBinding]
@[simp] theorem stageCore_enterFailed (c : ChannelId) (x : Channel) : stageCore (enterFailed c x s) = stageCore s := by
  simp [enterFailed]
@[simp] theorem stageCore_enterQuietly (c : ChannelId) (x : Channel) : stageCore (enterQuietly c x s) = stageCore s := by
  simp [enterQuietly]
@[simp] theorem stageCore_badFrame (c : ChannelId) : stageCore (badFrame c s) = stageCore s := by
  unfold badFrame; dsimp only; split <;> simp
@[simp] theorem stageCore_goodFrame (c : ChannelId) (f : HeadFrame) : stageCore (goodFrame c f s) = stageCore s := by
  unfold goodFrame
  dsimp only
  split
  · simp
  · split
    · simp
    · split
      · split <;> simp
      · simp
      · simp
@[simp] theorem stageCore_receivedFrame (c : ChannelId) (f : HeadFrame) : stageCore (receivedFrame c f s) = stageCore s := by
  unfold receivedFrame
  dsimp only
  split
  · rfl
  · rfl
  · split
    · simp
    · split <;> simp
@[simp] theorem stageCore_frameArrival (c : ChannelId) (cand : List RxChar) : stageCore (frameArrival c cand s) = stageCore s := by
  unfold frameArrival
  split
  · rfl
  · split <;> simp
@[simp] theorem stageCore_silenceTimerExpiry (c : ChannelId) : stageCore (silenceTimerExpiry c s) = stageCore s := by
  unfold silenceTimerExpiry
  dsimp only
  split
  · rfl
  · split <;> simp
@[simp] theorem stageCore_rebindReference (old : Settings) (u : StageId) : stageCore (rebindReference old u s) = stageCore s := by
  unfold rebindReference; dsimp only; split <;> simp
@[simp] theorem stageCore_bindChannel (c : ChannelId) (e : MapEntry) : stageCore (bindChannel c e s) = stageCore s := by
  simp [bindChannel, stageCore_foldl]

/-! ### The frame boundary (R38) -/

@[simp] theorem stageCore_setExposure (k : PointId) (x : PointExposure) : stageCore (s.setExposure k x) = stageCore s := rfl
@[simp] theorem stageCore_takePointFrame (k : PointId) : stageCore (takePointFrame k s) = stageCore s := by
  unfold takePointFrame; split <;> simp
@[simp] theorem stageCore_takeStageFrame (u : StageId) : stageCore (takeStageFrame u s) = stageCore s := by
  unfold takeStageFrame; split <;> simp
@[simp] theorem stageCore_frameWork : stageCore (frameWork s) = stageCore s := by
  simp [frameWork, emptySlots, stageCore_foldl]
@[simp] theorem stageCore_clearSession : stageCore (clearSession s) = stageCore s := by simp [clearSession]
@[simp] theorem stageCore_closeSession (q : Session) (k : SlotId) (why : CloseCause) :
    stageCore (closeSession q k why s) = stageCore s := by simp [closeSession]
@[simp] theorem stageCore_sessionCount : stageCore (sessionCount s) = stageCore s := by
  unfold sessionCount
  split
  · rfl
  · dsimp only; split <;> simp
@[simp] theorem stageCore_takeWindowTest (k : PointId) : stageCore (takeWindowTest k s) = stageCore s := by
  unfold takeWindowTest; split <;> simp
@[simp] theorem stageCore_minuteWork : stageCore (minuteWork s) = stageCore s := by simp [minuteWork, stageCore_foldl]
@[simp] theorem stageCore_intervalWork : stageCore (intervalWork s) = stageCore s := by simp [intervalWork]
@[simp] theorem stageCore_secondMeans : stageCore (secondMeans s) = stageCore s := by simp [secondMeans]
@[simp] theorem stageCore_closeWork : stageCore (closeWork s) = stageCore s := by
  unfold closeWork
  simp only [apply_ite stageCore, stageCore_intervalWork, stageCore_minuteWork, stageCore_secondMeans, ite_self]
@[simp] theorem stageCore_frameBoundary : stageCore (frameBoundary s) = stageCore s := by
  rcases boundaryCloses_cases (boundaryFrames s) with h | h <;> rw [frameBoundary, h] <;> simp [boundaryFrames]
@[simp] theorem stageCore_boundaryIf (due : Bool) : stageCore (boundaryIf due s) = stageCore s := by
  unfold boundaryIf; split <;> simp

/-! ### The schedule unit -/

@[simp] theorem stageCore_recompute : stageCore (recompute s) = stageCore s := by simp [recompute]
@[simp] theorem stageCore_adjustBuckets : stageCore (adjustBuckets s) = stageCore s := rfl
@[simp] theorem stageCore_adopt : stageCore (adopt s) = stageCore s := by
  unfold adopt; dsimp only; split <;> simp
@[simp] theorem stageCore_minuteBoundary : stageCore (minuteBoundary s) = stageCore s := by
  unfold minuteBoundary; split <;> simp
@[simp] theorem stageCore_clockAdvance : stageCore (clockAdvance s) = stageCore s := by
  unfold clockAdvance; dsimp only; split <;> simp
@[simp] theorem stageCore_clockMinuteBoundary : stageCore (clockMinuteBoundary s) = stageCore s := by
  unfold clockMinuteBoundary; split <;> simp
@[simp] theorem stageCore_openSession (k : SlotId) (endMinute fS : Nat) :
    stageCore (openSession k endMinute fS s) = stageCore s := by simp [openSession]
@[simp] theorem stageCore_writePoint (k : PointId) (q : PointSettings) : stageCore (writePoint k q s) = stageCore s := by
  unfold writePoint; dsimp only; split <;> simp

/-! ### The link -/

@[simp] theorem stageCore_freeLink : stageCore (freeLink s) = stageCore s := rfl
@[simp] theorem stageCore_setArb (k : SlotId) (x : ArbSlot) : stageCore (s.setArb k x) = stageCore s := rfl
@[simp] theorem stageCore_respond (k : SlotId) (r : Response) : stageCore (respond k r s) = stageCore s := rfl
theorem stageCore_frameTurn {s u : State} {k : SlotId} (h : frameTurn s = some (k, u)) : stageCore u = stageCore s := by
  rcases frameTurn_cases h with ⟨_, _, rfl⟩ | ⟨_, rfl⟩ <;> rfl
@[simp] theorem stageCore_countMiss (k : SlotId) : stageCore (countMiss k s) = stageCore s := by
  unfold countMiss; dsimp only; split <;> simp
@[simp] theorem stageCore_missFree : stageCore (missFree s) = stageCore s := by
  unfold missFree
  split
  case h_1 => rfl
  case h_2 h => simp [stageCore_frameTurn h]
@[simp] theorem stageCore_missClearing : stageCore (missClearing s) = stageCore s := by
  unfold missClearing
  split
  case h_1 => rfl
  case h_2 h => simp [stageCore_frameTurn h]
@[simp] theorem stageCore_requestLineAsserted (k : SlotId) : stageCore (requestLineAsserted k s) = stageCore s := by
  unfold requestLineAsserted; dsimp only; split <;> simp
@[simp] theorem stageCore_parkedFrameStart : stageCore (parkedFrameStart s) = stageCore s := by
  unfold parkedFrameStart; split <;> simp
@[simp] theorem stageCore_grantWindowExpiry : stageCore (grantWindowExpiry s) = stageCore s := by
  unfold grantWindowExpiry; split <;> simp
@[simp] theorem stageCore_frameLengthExcess (length : Byte) : stageCore (frameLengthExcess length s) = stageCore s := by
  unfold frameLengthExcess; split <;> simp
@[simp] theorem stageCore_badFrameEnd (chars : List RxChar) : stageCore (badFrameEnd chars s) = stageCore s := by
  unfold badFrameEnd
  split
  · rfl
  · split <;> simp
@[simp] theorem stageCore_linkIdleGap : stageCore (linkIdleGap s) = stageCore s := by
  unfold linkIdleGap; split <;> simp

/-! ### Records, notices and tables -/

@[simp] theorem stageCore_releaseRecords (n : Nat) : stageCore (releaseRecords n s) = stageCore s := by
  unfold releaseRecords; dsimp only; split <;> simp
@[simp] theorem stageCore_writeStation (k : SlotId) (x : Station) : stageCore (writeStation k x s) = stageCore s := by
  unfold writeStation; dsimp only; split <;> rfl
@[simp] theorem stageCore_judgeRing (before old : Nat) : stageCore (judgeRing before old s) = stageCore s := by
  unfold judgeRing; split <;> simp
@[simp] theorem stageCore_postLowered (u : StageId) (g : Grant) (due : Bool) : stageCore (postLowered u g due s) = stageCore s := by
  unfold postLowered; split <;> simp
@[simp] theorem stageCore_writeTiming (g : Timing) : stageCore (writeTiming g s) = stageCore s := by
  have written : stageCore (s.withSettings { s.settings with timing := g }) = stageCore s := rfl
  unfold writeTiming
  dsimp only
  split
  · split <;> simp [written]
  · split <;> simp [written]

end

/-! ### The moves -/

/-- What an event makes of one grant record, the stage's own record standing (R136, R142, R146, R148, R152). -/
inductive GrantEdit (q : StageSettings) (set : Timing) (g : Grant) : Grant → Prop
  /-- An enabled stage takes its entry of a pass result. -/
  | takeEntry (e : PassEntry) (h : q.enabled = true) : GrantEdit q set g (g.takeEntry e q set).1
  /-- The compliance timer expires. -/
  | ackTimeout (ht : g.complianceTimer.isSome) (h : g.compliance = .pending ∨ g.compliance = .releasing) :
      GrantEdit q set g (g.enforce .ackTimeout)
  /-- The hold-minimum timer expires. -/
  | holdDone (ht : g.holdTimer.isSome) (h : g.compliance = .releasing) :
      GrantEdit q set g { g with compliance := if g.complianceTimer.isSome then .pending else .tracking, holdTimer := none }
  /-- An acknowledgement is judged. -/
  | acknowledge (applied : Nat) (cannot : Bool) (h : g.compliance ≠ .disabled) :
      GrantEdit q set g (g.acknowledge applied cannot q.top set).1
  /-- The forced hold is set or cleared. -/
  | force (b : Bool) : GrantEdit q set g { g with forced := b }

/-- The grant record that a STAGE_WRITE leaves (R139, R155, R156). -/
def rewrittenGrant (g : Grant) (old new : StageSettings) (deadline : Nat) : Grant :=
  match old.enabled, new.enabled with
  | false, true => g.enabled new.floor
  | true, false => g.disabledAt new.floor
  | false, false => { g with c := new.floor, t := new.floor }
  | true, true => (g.refit old new deadline).1

/-- The state with the stage records replaced. -/
def withStages (s : State) (stages : Bank 4 StageSettings) : State := { s with settings := { s.settings with stages := stages } }

/-- What a step is made of, as far as the stage records, the store and the grant records go. -/
inductive StageMove : State → State → Prop
  /-- All three stand, but for the session flags. -/
  | calm {s t : State} (h : stageCore t = stageCore s) : StageMove s t
  | editGrant (s : State) (u : StageId) (g : Grant)
      (h : GrantEdit (s.settings.stages.get u) s.settings.timing (s.gu.grants.get u) g) : StageMove s (s.setGrant u g)
  /-- SHARE_WRITE (R117). -/
  | writeShares (s : State) (x : Bank 4 Nat) (h : enabledShares s.settings.stages x ≤ 256) :
      StageMove s (withStages s (s.settings.stages.renew fun u q => { q with share := x.get u }))
  /-- STAGE_WRITE (R115, R116): the stage's record and its grant record change together. -/
  | writeStage (s : State) (u : StageId) (params : List Byte) (new : StageSettings)
      (hread : readStage params = some (u, new.enabled, new.floor, new.top, new.idle))
      (hshare : new.share = (s.settings.stages.get u).share)
      (hsum : new.enabled = true → (s.settings.stages.get u).enabled = false →
        enabledShares (s.settings.stages.set u new) ((s.settings.stages.set u new).renew fun _ q => q.share) ≤ 256) :
      StageMove s ((withStages s (s.settings.stages.set u new)).setGrant u
        (rewrittenGrant (s.gu.grants.get u) (s.settings.stages.get u) new s.settings.timing.deadline))
  /-- STORE_SAVE copies the settings in use (R195). -/
  | save (s : State) : StageMove s { s with st := { s.st with saving := some s.settings } }
  /-- SAVE_COMPLETION (R195). -/
  | saved (s : State) (g : Settings) (h : s.st.saving = some g) : StageMove s { s with st := .written g }
  /-- A reset: every settings record was held or is the factory's, and every grant record starts afresh (R158, R194). -/
  | restart {s t : State} (held : ∀ g ∈ t.settingsHeld, g = Settings.factory ∨ g ∈ s.settingsHeld)
      (grants : ∀ u, t.gu.grants.get u = Grant.afterReset (t.settings.stages.get u)) : StageMove s t

/-- One move after another. -/
abbrev Moves : State → State → Prop := Relation.ReflTransGen StageMove

/-- An owner answers every request by moves. -/
def OwnerStageMoves (owner : Owner) : Prop := ∀ k params s, Moves s (owner k params s).1

theorem calm_moves {s t : State} (h : stageCore t = stageCore s) : Moves s t := .single (.calm h)

/-- A move, after which the core stands. -/
theorem StageMove.then_calm {s m t : State} (h : StageMove s m) (e : stageCore t = stageCore m) : Moves s t :=
  (Relation.ReflTransGen.single h).tail (.calm e)

theorem foldl_moves {α : Type} {f : State → α → State} (hf : ∀ s a, Moves s (f s a)) (l : List α) (s : State) :
    Moves s (l.foldl f s) := by
  induction l generalizing s with
  | nil => exact .refl
  | cons a l ih => exact (hf s a).trans (ih (f s a))

/-- Where a guard may turn the request down, only what the owner does past it counts. -/
theorem guard_moves {s : State} {c : Prop} [Decidable c] {st : Status} {a : State × Response} (h : ¬ c → Moves s a.1) :
    Moves s (if c then turnDown st s else a).1 := by
  split
  case isTrue => exact .refl
  case isFalse hc => exact h hc

/-! ### The grant unit -/

theorem takeStage_moves (r : PassOutcome) (u : StageId) (s : State) : Moves s (takeStage r u s) := by
  unfold takeStage
  split
  · exact .refl
  case h_2 e _ =>
    dsimp only
    split
    case isFalse => exact .refl
    case isTrue h =>
      refine (StageMove.editGrant s u _ (.takeEntry e h)).then_calm ?_
      split <;> simp

theorem passResult_moves (s : State) : Moves s (passResult s) := by
  refine (calm_moves (stageCore_startWaiting s)).trans ?_
  unfold passResult
  dsimp only
  split
  · exact .refl
  · exact (foldl_moves (fun s u => takeStage_moves _ u s) _ _).trans (calm_moves rfl)

theorem complianceTimerExpiry_moves (u : StageId) (s : State) : Moves s (complianceTimerExpiry u s) := by
  unfold complianceTimerExpiry
  dsimp only
  split
  case isTrue h => exact (StageMove.editGrant s u _ (.ackTimeout h.1 h.2)).then_calm (by simp)
  case isFalse => exact .refl

theorem holdMinimumExpiry_moves (u : StageId) (s : State) : Moves s (holdMinimumExpiry u s) := by
  unfold holdMinimumExpiry
  dsimp only
  split
  case isTrue h =>
    refine (StageMove.editGrant s u _ (.holdDone h.1 h.2)).then_calm ?_
    split <;> simp
  case isFalse => exact .refl

theorem ownerGrantAck_moves : OwnerStageMoves ownerGrantAck := by
  intro k params s
  unfold ownerGrantAck
  split
  case h_1 => exact .refl
  case h_2 u applied cannot _ =>
    refine guard_moves fun h => (StageMove.editGrant s u _ (.acknowledge applied cannot h)).then_calm ?_
    dsimp only [ok]
    split <;> simp

theorem ownerHoldForce_moves : OwnerStageMoves ownerHoldForce := by
  intro k params s
  unfold ownerHoldForce
  split
  case h_1 => exact .refl
  case h_2 u _ =>
    refine (StageMove.editGrant s u _ (.force true)).then_calm ?_
    dsimp only [ok]
    split <;> simp

theorem ownerHoldUnforce_moves : OwnerStageMoves ownerHoldUnforce := by
  intro k params s
  unfold ownerHoldUnforce
  split
  case h_1 => exact .refl
  case h_2 u _ =>
    refine (StageMove.editGrant s u _ (.force false)).then_calm ?_
    dsimp only [ok]
    split <;> simp

/-! ### STAGE_WRITE and SHARE_WRITE -/

/-- What the core becomes by a new grant record rests on the core alone. -/
theorem stageCore_setGrant {s t : State} (h : stageCore s = stageCore t) (u : StageId) (g : Grant) :
    stageCore (s.setGrant u g) = stageCore (t.setGrant u g) := by
  simp only [stageCore, Prod.mk.injEq] at h
  obtain ⟨hstages, hst, hgrants⟩ := h
  simp only [stageCore, State.setGrant_settings, State.setGrant_st, State.setGrant_gu, hstages, hst, Prod.mk.injEq, true_and]
  funext j
  have hj := congrFun hgrants j
  rw [Bank.get_set, Bank.get_set]
  split
  · rfl
  · exact hj

theorem stageCore_regrant (u : StageId) (old new : StageSettings) (s : State) : stageCore (regrant u old new s) =
    stageCore (s.setGrant u (rewrittenGrant (s.gu.grants.get u) old new s.settings.timing.deadline)) := by
  unfold regrant
  dsimp only
  split
  case h_1 hold hnew => simp [rewrittenGrant, hold, hnew]
  case h_2 hold hnew => split <;> simp [rewrittenGrant, hold, hnew]
  case h_3 hold hnew => simp [rewrittenGrant, hold, hnew]
  case h_4 hold hnew => simp [rewrittenGrant, hold, hnew]

theorem stageCore_writeStage (u : StageId) (new : StageSettings) (s : State) : stageCore (writeStage u new s) =
    stageCore ((withStages s (s.settings.stages.set u new)).setGrant u
      (rewrittenGrant (s.gu.grants.get u) (s.settings.stages.get u) new s.settings.timing.deadline)) := by
  unfold writeStage
  dsimp only
  rw [stageCore_regrant]
  split
  · exact stageCore_setGrant (stageCore_abandonSurvey _ _) u _
  · rfl

theorem ownerStageWrite_moves : OwnerStageMoves ownerStageWrite := by
  intro k params s
  unfold ownerStageWrite
  split
  case h_1 => exact .refl
  case h_2 u on floor top idle hread =>
    refine guard_moves fun hsum => guard_moves fun _ => guard_moves fun _ => ?_
    have write := StageMove.writeStage s u params ⟨on, floor, top, idle, (s.settings.stages.get u).share⟩ hread rfl
      fun hon hoff => Nat.not_lt.1 fun hlt => hsum ⟨hon, by simp [hoff], hlt⟩
    exact write.then_calm (stageCore_writeStage u _ s)

theorem ownerShareWrite_moves : OwnerStageMoves ownerShareWrite := by
  intro k params s
  unfold ownerShareWrite
  split
  case h_1 => exact .refl
  case h_2 x _ => exact guard_moves fun hsum => guard_moves fun _ => .single (.writeShares s x (Nat.not_lt.1 hsum))

/-! ### The store and the resets (R194 to R197) -/

theorem load_held (s : State) : s.st.load = Settings.factory ∨ s.st.load ∈ s.settingsHeld := by
  rcases s.st.load_cases with ⟨_, h⟩ | ⟨_, h⟩ <;> simp [h, State.settingsHeld]

theorem ownerStoreSave_moves : OwnerStageMoves ownerStoreSave := fun _ _ s => guard_moves fun _ => .single (.save s)

theorem saveCompletion_moves (s : State) : Moves s (saveCompletion s) := by
  unfold saveCompletion
  split
  case h_1 => exact .refl
  case h_2 g hg => exact .single (.saved s g hg)

/-- Every block afresh, with factory settings or those that the store loads, on an image that was held. -/
theorem afterPowerUp_move {s : State} {g : Settings} {st : Store} (lines : Bank 8 Bool) (draws : Nat) (queue : List Instr)
    (himage : st.image ∈ s.settingsHeld) (hsaving : st.saving = none) (hg : g = Settings.factory ∨ g = st.image) :
    StageMove s (State.afterPowerUp g lines st draws queue) := by
  refine .restart (fun x hx => ?_) fun u => by simp [State.afterPowerUp]
  simp only [State.settingsHeld, State.afterPowerUp, hsaving, Option.toList_none, List.mem_cons, List.not_mem_nil, or_false] at hx
  rcases hx with rfl | rfl
  · rcases hg with rfl | rfl
    · exact .inl rfl
    · exact .inr himage
  · exact .inr himage

theorem powerUp_moves (s : State) : Moves s (powerUp s) := by
  obtain ⟨himage, hsaving⟩ := ScheduleMoves.afterNpor_held s.st s.draws
  have load : (s.st.afterNpor s.draws).1.load = Settings.factory ∨
      (s.st.afterNpor s.draws).1.load = (s.st.afterNpor s.draws).1.image :=
    (Store.load_cases _).elim (fun h => .inr h.2) fun h => .inl h.2
  have fresh := afterPowerUp_move (s.la.slots.renew fun _ x => x.line) (s.st.afterNpor s.draws).2 s.pending
    (List.mem_cons_of_mem _ himage) hsaving load
  exact fresh.then_calm (by simp [powerUp])

theorem lossOfPower_moves (s : State) : Moves s (lossOfPower s) := by
  obtain ⟨himage, hsaving⟩ := ScheduleMoves.afterLoss_held s.st s.draws
  have blank := afterPowerUp_move (s := s) (s.la.slots.renew fun _ x => x.line) (s.st.afterLoss s.draws).2 s.pending
    (by simp [himage, State.settingsHeld]) hsaving (.inl rfl)
  exact blank.then_calm rfl

/-- The blocks of a command reset, its settings being loaded, start afresh (R158, R197). -/
theorem resetBlocks_move (s : State) : StageMove s (resetBlocks (resetLoad (resetEnds s))) := by
  refine .restart (fun g hg => ?_) fun u => by simp [resetBlocks]
  have hst : (resetEnds s).st = s.st := by simp [resetEnds, clearSession]
  simp only [State.settingsHeld, resetBlocks, resetLoad, State.withSettings_settings, State.withSettings_st, offerAllQuiet_st,
    offerQuiet_st, hst, Option.toList_none, List.mem_cons, List.not_mem_nil, or_false] at hg
  rcases hg with rfl | rfl
  · exact load_held s
  · exact .inr (by simp [State.settingsHeld])

theorem commandReset_moves (s : State) : Moves s (commandReset s) := by
  refine (resetBlocks_move s).then_calm ?_
  have handed : ∀ u : State, stageCore (resetHanded u) = stageCore u := by
    intro u
    unfold resetHanded
    split <;> rfl
  simp [commandReset, handed]

theorem responseEnd_moves (s : State) : Moves s (responseEnd s) := by
  unfold responseEnd
  split
  · split
    · exact commandReset_moves s
    · exact calm_moves (by simp)
  · exact .refl

/-! ### The other owners -/

/-- An owner that leaves the core as it is. -/
def OwnerCalm (owner : Owner) : Prop := ∀ k params s, stageCore (owner k params s).1 = stageCore s

theorem OwnerCalm.moves {owner : Owner} (h : OwnerCalm owner) : OwnerStageMoves owner := fun k params s => calm_moves (h k params s)

/-- Where a guard may turn the request down, only what the owner does past it counts. -/
theorem guard_calm {s : State} {c : Prop} [Decidable c] {st : Status} {a : State × Response} (h : stageCore a.1 = stageCore s) :
    stageCore (if c then turnDown st s else a).1 = stageCore s := by
  split
  · rfl
  · exact h

theorem ownerTimeSet_calm : OwnerCalm ownerTimeSet := by
  intro k params s
  unfold ownerTimeSet
  split <;> simp [ok, turnDown]

theorem ownerSchedWrite_calm : OwnerCalm ownerSchedWrite := by
  intro k params s
  unfold ownerSchedWrite
  split
  · rfl
  · exact guard_calm (guard_calm rfl)

theorem ownerSchedClear_calm : OwnerCalm ownerSchedClear := fun _ _ _ => guard_calm rfl

theorem ownerSchedCommit_calm : OwnerCalm ownerSchedCommit := fun _ _ _ => guard_calm rfl

theorem ownerSessionLimitWrite_calm : OwnerCalm ownerSessionLimitWrite := by
  intro k params s
  unfold ownerSessionLimitWrite
  split
  · rfl
  · exact guard_calm rfl

theorem ownerSessionOpen_calm : OwnerCalm ownerSessionOpen := by
  intro k params s
  unfold ownerSessionOpen
  split
  · rfl
  · exact guard_calm (guard_calm (guard_calm (guard_calm (guard_calm (guard_calm (stageCore_openSession s k _ _))))))

theorem ownerSessionClose_calm : OwnerCalm ownerSessionClose := by
  intro k params s
  unfold ownerSessionClose
  split <;> simp [ok, turnDown]

theorem ownerFallbackWrite_calm : OwnerCalm ownerFallbackWrite := by
  intro k params s
  unfold ownerFallbackWrite
  split
  case h_1 => rfl
  case h_2 z _ =>
    refine guard_calm ?_
    have written : stageCore (s.withSettings { s.settings with fallback := z }) = stageCore s := rfl
    dsimp only [ok]
    split <;> simp [written]

theorem ownerSurveyStart_calm : OwnerCalm ownerSurveyStart := by
  intro k params s
  unfold ownerSurveyStart
  split
  · rfl
  · exact guard_calm (guard_calm (guard_calm (guard_calm (guard_calm rfl))))

theorem ownerSurveyAbort_calm : OwnerCalm ownerSurveyAbort := by
  intro k params s
  unfold ownerSurveyAbort
  split <;> simp [ok, turnDown]

theorem ownerSurveyAccept_calm : OwnerCalm ownerSurveyAccept := by
  refine fun k params s => guard_calm (guard_calm (guard_calm ?_))
  dsimp only [ok]
  split <;> rfl

theorem ownerSurveyDiscard_calm : OwnerCalm ownerSurveyDiscard := by
  intro k params s
  unfold ownerSurveyDiscard
  split <;> rfl

theorem ownerReset_calm : OwnerCalm ownerReset := fun _ _ _ => guard_calm rfl

theorem ownerArbWrite_calm : OwnerCalm ownerArbWrite := by
  intro k params s
  unfold ownerArbWrite
  split
  · rfl
  · exact guard_calm rfl

theorem ownerArbClear_calm : OwnerCalm ownerArbClear := by
  intro k params s
  unfold ownerArbClear
  split
  · rfl
  · exact guard_calm (by simp [ok])

theorem ownerCouplingWrite_calm : OwnerCalm ownerCouplingWrite := by
  intro k params s
  unfold ownerCouplingWrite
  split
  · rfl
  · exact guard_calm (guard_calm rfl)

theorem ownerChannelBind_calm : OwnerCalm ownerChannelBind := by
  intro k params s
  unfold ownerChannelBind
  split
  · rfl
  · exact guard_calm (guard_calm (stageCore_bindChannel s _ _))

theorem ownerPointWrite_calm : OwnerCalm ownerPointWrite := by
  intro k params s
  unfold ownerPointWrite
  split
  · rfl
  · exact guard_calm (guard_calm (stageCore_writePoint s _ _))

theorem ownerRecordRelease_calm : OwnerCalm ownerRecordRelease := by
  intro k params s
  unfold ownerRecordRelease
  split
  · rfl
  · exact guard_calm (stageCore_releaseRecords s _)

theorem ownerNoticeEnable_calm : OwnerCalm ownerNoticeEnable := by
  intro k params s
  unfold ownerNoticeEnable
  split <;> rfl

theorem ownerDispatchWrite_calm : OwnerCalm ownerDispatchWrite := by
  intro k params s
  unfold ownerDispatchWrite
  split
  · rfl
  · exact guard_calm rfl

theorem ownerRoleWrite_calm : OwnerCalm ownerRoleWrite := by
  intro k params s
  unfold ownerRoleWrite
  split
  · rfl
  · exact guard_calm (guard_calm (stageCore_writeStation s _ _))

theorem ownerTimingWrite_calm : OwnerCalm ownerTimingWrite := by
  intro k params s
  unfold ownerTimingWrite
  split
  · rfl
  · exact guard_calm (stageCore_writeTiming s _)

/-! ### The reads -/

theorem ownerStatusRead_calm : OwnerCalm ownerStatusRead := fun _ _ _ => rfl

theorem ownerSurveyRead_calm : OwnerCalm ownerSurveyRead := fun _ _ _ => rfl

theorem ownerLevelsRead_calm : OwnerCalm ownerLevelsRead := by
  intro k params s
  unfold ownerLevelsRead
  split <;> rfl

theorem ownerCouplingRead_calm : OwnerCalm ownerCouplingRead := by
  intro k params s
  unfold ownerCouplingRead
  split <;> rfl

theorem ownerSchedRead_calm : OwnerCalm ownerSchedRead := by
  intro k params s
  unfold ownerSchedRead
  split <;> rfl

theorem ownerRecordRead_calm : OwnerCalm ownerRecordRead := by
  intro k params s
  unfold ownerRecordRead
  split <;> rfl

theorem ownerGrantQuery_calm : OwnerCalm ownerGrantQuery := by
  intro k params s
  unfold ownerGrantQuery
  split <;> rfl

/-! ### A request, a command, a step -/

theorem judge_moves {owner : Owner} (h : OwnerStageMoves owner) (k : SlotId) (req : Option Request) (allowed : Request → Bool)
    (params : List Byte) (s : State) : Moves s (judge k req allowed owner params s) := by
  unfold judge
  split
  · exact calm_moves rfl
  · split
    · exact calm_moves rfl
    · split
      · exact calm_moves rfl
      · exact (h k params s).tail (.calm rfl)

theorem arrive_moves {owner : Owner} (h : OwnerStageMoves owner) (code : Byte) (req : Option Request) (params : List Byte)
    (s : State) : Moves s (arrive code req owner params s) := by
  unfold arrive
  split
  case h_1 => exact .refl
  case h_2 k u hu =>
    refine (calm_moves ((stageCore_setArb u k { u.la.slots.get k with missRun := 0 }).trans (stageCore_frameTurn hu))).trans ?_
    unfold takeRequest
    dsimp only
    split
    · exact judge_moves h ..
    · refine (calm_moves (stageCore_report _ (accessReport k .unauthorized code))).trans ?_
      split
      · exact calm_moves rfl
      · exact calm_moves rfl
      · exact judge_moves h ..

/-- A command that is taken whole makes the moves of its effect. -/
theorem whenPowered_moves {f : State → State} (h : ∀ s, Moves s (f s)) {s t : State} (e : whenPowered s f = .next t) :
    Moves s t := by
  cases e
  split
  · exact h s
  · exact .refl

theorem whenPowered_calm {f : State → State} (h : ∀ s, stageCore (f s) = stageCore s) {s t : State}
    (e : whenPowered s f = .next t) : Moves s t :=
  whenPowered_moves (fun s => calm_moves (h s)) e

/-- A request makes the moves of its owner. -/
theorem serve_moves {owner : Owner} (h : OwnerStageMoves owner) {r : Request} {params : List Byte} {s t : State}
    (e : whenPowered s (serve r owner params) = .next t) : Moves s t :=
  whenPowered_moves (arrive_moves h _ _ params) e

/-- Every command is made of moves. -/
theorem exec_moves {c : Instr} {s t : State} (e : exec c s = .next t) : Moves s t := by
  cases c with
  | frameArrival ch cand => exact whenPowered_calm (by simp) e
  | silenceTimerExpiry ch => exact whenPowered_calm (by simp) e
  | receiverIdleGap ch => exact whenPowered_calm (by simp [receiverIdleGap]) e
  | frameBoundary => exact whenPowered_calm (by simp) e
  | sessionEnd => exact whenPowered_calm (by simp [sessionEnd]) e
  | secondClose => exact whenPowered_calm (by simp [secondClose]) e
  | minuteClose => exact whenPowered_calm (by simp [minuteClose]) e
  | intervalClose => exact whenPowered_calm (by simp [intervalClose]) e
  | passResult => exact whenPowered_moves passResult_moves e
  | complianceTimerExpiry stage => exact whenPowered_moves (complianceTimerExpiry_moves stage) e
  | holdMinimumExpiry stage => exact whenPowered_moves (holdMinimumExpiry_moves stage) e
  | clockAdvance => exact whenPowered_calm (by simp) e
  | clockMinuteBoundary => exact whenPowered_calm (by simp) e
  | saveCompletion => exact whenPowered_moves saveCompletion_moves e
  | powerUp => cases e; exact powerUp_moves s
  | commandReset =>
    refine whenPowered_moves (f := fun s => if s.resetAwaits then commandReset s else s) (fun s => ?_) e
    split
    · exact commandReset_moves s
    · exact .refl
  | lossOfPower => exact whenPowered_moves lossOfPower_moves e
  | requestLineAsserted slot => cases e; exact calm_moves (by simp)
  | requestLineReleased slot => cases e; exact calm_moves (by simp [requestLineReleased])
  | parkedWindowExpiry => exact whenPowered_calm (by simp) e
  | parkedFrameStart => exact whenPowered_calm (by simp) e
  | grantWindowExpiry => exact whenPowered_calm (by simp) e
  | frameLengthExcess length => exact whenPowered_calm (by simp) e
  | frameTimeLimit => exact whenPowered_calm (by simp) e
  | badFrameEnd chars => exact whenPowered_calm (by simp) e
  | linkIdleGap => exact whenPowered_calm (by simp) e
  | responseEnd => exact whenPowered_moves responseEnd_moves e
  | unknownRequest code params => exact whenPowered_moves (arrive_moves (fun _ _ _ => .refl) code none params) e
  | statusRead params => exact serve_moves ownerStatusRead_calm.moves e
  | levelsRead params => exact serve_moves ownerLevelsRead_calm.moves e
  | noticeEnable params => exact serve_moves ownerNoticeEnable_calm.moves e
  | grantQuery params => exact serve_moves ownerGrantQuery_calm.moves e
  | grantAck params => exact serve_moves ownerGrantAck_moves e
  | sessionOpen params => exact serve_moves ownerSessionOpen_calm.moves e
  | sessionClose params => exact serve_moves ownerSessionClose_calm.moves e
  | pointWrite params => exact serve_moves ownerPointWrite_calm.moves e
  | stageWrite params => exact serve_moves ownerStageWrite_moves e
  | channelBind params => exact serve_moves ownerChannelBind_calm.moves e
  | shareWrite params => exact serve_moves ownerShareWrite_moves e
  | couplingWrite params => exact serve_moves ownerCouplingWrite_calm.moves e
  | couplingRead params => exact serve_moves ownerCouplingRead_calm.moves e
  | surveyStart params => exact serve_moves ownerSurveyStart_calm.moves e
  | surveyAbort params => exact serve_moves ownerSurveyAbort_calm.moves e
  | surveyAccept params => exact serve_moves ownerSurveyAccept_calm.moves e
  | surveyDiscard params => exact serve_moves ownerSurveyDiscard_calm.moves e
  | surveyRead params => exact serve_moves ownerSurveyRead_calm.moves e
  | schedRead params => exact serve_moves ownerSchedRead_calm.moves e
  | schedWrite params => exact serve_moves ownerSchedWrite_calm.moves e
  | schedClear params => exact serve_moves ownerSchedClear_calm.moves e
  | schedCommit params => exact serve_moves ownerSchedCommit_calm.moves e
  | sessionLimitWrite params => exact serve_moves ownerSessionLimitWrite_calm.moves e
  | fallbackWrite params => exact serve_moves ownerFallbackWrite_calm.moves e
  | timeSet params => exact serve_moves ownerTimeSet_calm.moves e
  | roleWrite params => exact serve_moves ownerRoleWrite_calm.moves e
  | dispatchWrite params => exact serve_moves ownerDispatchWrite_calm.moves e
  | holdForce params => exact serve_moves ownerHoldForce_moves e
  | holdUnforce params => exact serve_moves ownerHoldUnforce_moves e
  | recordRead params => exact serve_moves ownerRecordRead_calm.moves e
  | recordRelease params => exact serve_moves ownerRecordRelease_calm.moves e
  | arbWrite params => exact serve_moves ownerArbWrite_calm.moves e
  | arbClear params => exact serve_moves ownerArbClear_calm.moves e
  | timingWrite params => exact serve_moves ownerTimingWrite_calm.moves e
  | storeSave params => exact serve_moves ownerStoreSave_moves e
  | reset params => exact serve_moves ownerReset_calm.moves e

/-- Every step is made of moves. -/
theorem step_moves {s t : State} (e : step s = .next t) : Moves s t := by
  cases hp : s.pending with
  | nil =>
    rw [step_empty s hp] at e
    cases e
    exact calm_moves (stageCore_idle s)
  | cons c rest =>
    rw [step_front s c rest hp] at e
    exact (calm_moves (stageCore_frame s ..)).trans (exec_moves e)

/-- What every move keeps, every step keeps. -/
theorem step_keeps {P : State → Prop} (hP : ∀ {s t}, StageMove s t → P s → P t) {s t : State} (hs : P s) (e : step s = .next t) :
    P t := by
  have moves := step_moves e
  clear e
  induction moves with
  | refl => exact hs
  | tail _ hmove ih => exact hP hmove ih

end Sys2Proof.Proofs.StageMoves
end

section
/-!
The grant record's own operations (07_stage_grants_and_enforcement.md: R134, R136 to R139, R142 to R149), and that every ceiling stays
within its stage's floor and top.
-/

namespace Sys2Proof.Proofs.Ceilings

open Sys2Proof Sys2Proof.Machine
open Sys2Proof.Proofs.StageMoves

/-! ### What the operations leave of the ceiling and the target -/

theorem le_clampTo {a b : Nat} (h : a ≤ b) (x : Nat) : a ≤ clampTo a b x := by
  unfold clampTo
  split <;> (try split) <;> omega

theorem clampTo_le {a b : Nat} (h : a ≤ b) (x : Nat) : clampTo a b x ≤ b := by
  unfold clampTo
  split <;> (try split) <;> omega

/-- The overrun test touches the count, and by an entry into ENFORCED the compliance (R149). -/
theorem overrunTest_cases (g : Grant) (x : Second) (set : Timing) :
    (∃ n, g.overrunTest x set = ({ g with overrun := n }, false)) ∨
      g.overrunTest x set = ({ g.enforce .overrun with overrun := 0 }, true) := by
  unfold Grant.overrunTest
  split
  · split
    · split
      · exact .inl ⟨0, rfl⟩
      · exact .inr rfl
    · exact .inl ⟨_, rfl⟩
  · exact .inl ⟨0, rfl⟩

/-- The lowering test touches the compliance state and its timer alone (R146, R147). -/
theorem loweringTest_frame (g : Grant) (was top deadline : Nat) : (g.loweringTest was top deadline).1 =
    { g with
      compliance := (g.loweringTest was top deadline).1.compliance
      complianceTimer := (g.loweringTest was top deadline).1.complianceTimer } := by
  unfold Grant.loweringTest
  split
  · split <;> rfl
  · split <;> rfl
  · split
    · rfl
    · split <;> rfl
  · rfl

@[simp] theorem loweringTest_c (g : Grant) (was top deadline : Nat) : (g.loweringTest was top deadline).1.c = g.c := by
  rw [loweringTest_frame]

@[simp] theorem loweringTest_t (g : Grant) (was top deadline : Nat) : (g.loweringTest was top deadline).1.t = g.t := by
  rw [loweringTest_frame]

/-- The ceiling and the target lie within the floor and top of a stage's record (R134). -/
def boundedBy (g : Grant) (q : StageSettings) : Prop := q.floor ≤ g.c ∧ g.c ≤ q.top ∧ q.floor ≤ g.t ∧ g.t ≤ q.top

/-- Whether a record is bounded rests on its ceiling and its target. -/
theorem boundedBy_congr {g h : Grant} {q : StageSettings} (hc : h.c = g.c) (ht : h.t = g.t) (hg : boundedBy g q) : boundedBy h q := by
  unfold boundedBy at *
  rwa [hc, ht]

theorem boundedBy_clamped {g : Grant} {q : StageSettings} (hq : q.floor ≤ q.top) {x y : Nat} (hc : g.c = clampTo q.floor q.top x)
    (ht : g.t = clampTo q.floor q.top y) : boundedBy g q := by
  unfold boundedBy
  rw [hc, ht]
  exact ⟨le_clampTo hq x, clampTo_le hq x, le_clampTo hq y, clampTo_le hq y⟩

theorem boundedBy_floor {g : Grant} {q : StageSettings} (hq : q.floor ≤ q.top) (hc : g.c = q.floor) (ht : g.t = q.floor) :
    boundedBy g q := by
  unfold boundedBy
  rw [hc, ht]
  exact ⟨Nat.le_refl _, hq, Nat.le_refl _, hq⟩

/-! ### The moves -/

/-- The record after the overrun test and the move of an entry (R136, steps 1 and 2). -/
def movedGrant (g : Grant) (e : PassEntry) (q : StageSettings) (set : Timing) : Grant :=
  (g.overrunTest e.second set).1.move e.kind e.target q set

/-- What the lowering test makes of a moved record: it judges where the ceiling changed (R136, step 3). -/
def judgedGrant (g : Grant) (e : PassEntry) (q : StageSettings) (set : Timing) : Grant × Bool :=
  if (movedGrant g e q set).c = g.c then (movedGrant g e q set, false)
  else (movedGrant g e q set).loweringTest g.c q.top set.deadline

theorem takeEntry_eq (g : Grant) (e : PassEntry) (q : StageSettings) (set : Timing) : g.takeEntry e q set =
    ({ (judgedGrant g e q set).1 with last := e.second }, (g.overrunTest e.second set).2, (judgedGrant g e q set).2) := rfl

/-- The judgement touches the compliance state and its timer alone. -/
theorem judgedGrant_frame (g : Grant) (e : PassEntry) (q : StageSettings) (set : Timing) : (judgedGrant g e q set).1 =
    { movedGrant g e q set with
      compliance := (judgedGrant g e q set).1.compliance, complianceTimer := (judgedGrant g e q set).1.complianceTimer } := by
  unfold judgedGrant
  split
  · rfl
  · exact loweringTest_frame ..

/-- A pass entry's target is kept, and the ceiling moved toward it, each clamped (R136, step 2). -/
theorem takeEntry_bounded (g : Grant) (e : PassEntry) {q : StageSettings} (set : Timing) (hq : q.floor ≤ q.top) :
    boundedBy (g.takeEntry e q set).1 q := by
  rw [takeEntry_eq, judgedGrant_frame]
  exact boundedBy_clamped hq rfl rfl

/-- A judgement of an acknowledgement moves neither ceiling nor target (R144, R145). -/
theorem acknowledge_bounds (g : Grant) (applied : Nat) (cannot : Bool) (top : Nat) (set : Timing) :
    (g.acknowledge applied cannot top set).1.c = g.c ∧ (g.acknowledge applied cannot top set).1.t = g.t := by
  unfold Grant.acknowledge Grant.judge
  dsimp only
  split
  · exact ⟨rfl, rfl⟩
  · split <;> (try split) <;> exact ⟨rfl, rfl⟩

theorem grantEdit_bounded {q : StageSettings} {set : Timing} {g h : Grant} (hq : q.floor ≤ q.top) (hg : boundedBy g q)
    (he : GrantEdit q set g h) : boundedBy h q := by
  cases he with
  | takeEntry e => exact takeEntry_bounded g e set hq
  | ackTimeout => exact hg
  | holdDone => exact hg
  | acknowledge applied cannot =>
    obtain ⟨hc, ht⟩ := acknowledge_bounds g applied cannot q.top set
    exact boundedBy_congr hc ht hg
  | force => exact hg

/-- The grant record of a stage whose floor and top are written stands at the floor or is clamped (R139, R155, R156). -/
theorem rewrittenGrant_bounded (g : Grant) (old : StageSettings) {new : StageSettings} (deadline : Nat) (hq : new.floor ≤ new.top) :
    boundedBy (rewrittenGrant g old new deadline) new := by
  unfold rewrittenGrant
  split
  · exact boundedBy_floor hq rfl rfl
  · exact boundedBy_floor hq rfl rfl
  · exact boundedBy_floor hq rfl rfl
  · unfold Grant.refit
    dsimp only
    split
    · exact boundedBy_clamped hq rfl rfl
    · exact boundedBy_clamped hq (loweringTest_c ..) (loweringTest_t ..)

/-- A record of a stage as STAGE_WRITE reads it has its top above its floor (R114, R115). -/
theorem readStage_range {params : List Byte} {u : StageId} {on : Bool} {floor top idle : Nat}
    (h : readStage params = some (u, on, floor, top, idle)) : floor + 100 ≤ top := by
  unfold readStage at h
  split at h
  · simp only [Option.bind_eq_bind, Option.bind_eq_some_iff, Option.ite_none_right_eq_some, Option.pure_def, Option.some.injEq,
      Prod.mk.injEq] at h
    obtain ⟨_, _, _, _, ⟨_, _, _, _, _, _, hle⟩, _, _, rfl, rfl, _⟩ := h
    exact hle
  · cases h

/-! ### The invariant -/

/-- What O12 keeps. -/
def ceilingsSound (s : State) : Prop := s.settingsAll Settings.topsAboveFloors ∧ s.ceilingsWithin

theorem topsAboveFloors_congr {g h : Settings} (e : g.stages = h.stages) (hh : h.topsAboveFloors) : g.topsAboveFloors := by
  unfold Settings.topsAboveFloors at *
  rwa [e]

theorem factory_topsAboveFloors : Settings.factory.topsAboveFloors := fun u => by simp [Settings.factory]

/-- The settings in use are some of those held. -/
theorem settingsAll_inUse {s : State} {P : Settings → Prop} (h : s.settingsAll P) : P s.settings := h _ (List.mem_cons_self ..)

/-- All settings held, but for those in use, stand where the store stands. -/
theorem settingsAll_of_store {s t : State} {P : Settings → Prop} (h : s.settingsAll P) (hst : t.st = s.st) (ht : P t.settings) :
    t.settingsAll P := by
  intro g hg
  simp only [State.settingsHeld, hst, List.mem_cons] at hg
  rcases hg with rfl | hg
  · exact ht
  · exact h g (List.mem_cons_of_mem _ (List.mem_cons.2 hg))

theorem stageMove_keeps {s t : State} (hmove : StageMove s t) (hs : ceilingsSound s) : ceilingsSound t := by
  obtain ⟨hall, hgrants⟩ := hs
  have hq : ∀ u, (s.settings.stages.get u).floor ≤ (s.settings.stages.get u).top := fun u => by
    have := settingsAll_inUse hall u
    omega
  cases hmove with
  | calm h =>
    simp only [stageCore, Prod.mk.injEq] at h
    obtain ⟨hstages, hst, hgu⟩ := h
    refine ⟨settingsAll_of_store hall hst (topsAboveFloors_congr hstages (settingsAll_inUse hall)), fun u => ?_⟩
    obtain ⟨hc, ht, -⟩ := Grant.mk.inj (congrFun hgu u)
    rw [hstages]
    exact boundedBy_congr hc ht (hgrants u)
  | editGrant u g h =>
    refine ⟨hall, fun j => ?_⟩
    simp only [State.setGrant_gu, State.setGrant_settings, Bank.get_set]
    split
    case isTrue hj => exact hj ▸ grantEdit_bounded (hq u) (hgrants u) h
    case isFalse => exact hgrants j
  | writeShares x =>
    refine ⟨settingsAll_of_store hall rfl fun u => ?_, fun u => ?_⟩
    · simpa [withStages] using settingsAll_inUse hall u
    · simpa [withStages] using hgrants u
  | writeStage u params new hread =>
    have hnew := readStage_range hread
    refine ⟨settingsAll_of_store hall rfl fun j => ?_, fun j => ?_⟩
    all_goals simp only [State.setGrant_gu, State.setGrant_settings, withStages, Bank.get_set]
    · split
      · exact hnew
      · exact settingsAll_inUse hall j
    · split
      · exact rewrittenGrant_bounded _ _ _ (by omega)
      · exact hgrants j
  | save =>
    refine ⟨fun g hg => hall g ?_, hgrants⟩
    simp only [State.settingsHeld, Option.toList_some, List.mem_cons, List.not_mem_nil, or_false] at hg ⊢
    rcases hg with h | h | h
    · exact .inl h
    · exact .inr (.inl h)
    · exact .inl h
  | saved g hg =>
    refine ⟨fun x hx => hall x ?_, hgrants⟩
    simp only [State.settingsHeld, Store.written, hg, Option.toList_none, Option.toList_some, List.mem_cons, List.not_mem_nil,
      or_false] at hx ⊢
    exact hx.imp_right .inr
  | restart held grants =>
    have hall' : t.settingsAll Settings.topsAboveFloors := fun g hg => by
      rcases held g hg with rfl | h
      · exact factory_topsAboveFloors
      · exact hall g h
    refine ⟨hall', fun u => ?_⟩
    have hu := settingsAll_inUse hall' u
    rw [grants u]
    exact boundedBy_floor (by omega) rfl rfl

/-- Settles O12: a ceiling changes by a clamp or to the floor, and a stage's floor and top change only with its ceiling. -/
theorem ceilingsStayWithin : Obligations.CeilingsStayWithin :=
  fun _ _ hall hgrants => step_keeps stageMove_keeps ⟨hall, hgrants⟩

end Sys2Proof.Proofs.Ceilings
end

section
/-!
The figures of a pass (06_the_allocation_pass.md: R118 to R125).
-/

namespace Sys2Proof.Proofs.Allocation

open Sys2Proof Sys2Proof.Machine

/-! ### Tier allowances (R118 to R120) -/

/-- A remainder spread over the frames left is the most that they can spend each, or 0. -/
theorem spread_spec (r : Int) {f : Nat} (hf : 1 ≤ f) :
    (spread r f = 0 ∨ (spread r f : Int) * f ≤ r) ∧ r < (spread r f + 1) * f := by
  have hpos : (0 : Int) < f := by omega
  unfold spread
  split
  case isTrue hr =>
    rw [Int.toNat_of_nonneg (Int.ediv_nonneg hr.le hpos.le)]
    exact ⟨.inr (Int.ediv_mul_le r hpos.ne'), Int.lt_ediv_add_one_mul_self r hpos⟩
  case isFalse hr => exact ⟨.inl rfl, by push_cast; omega⟩

theorem windowAllowance_spec (lw n sPrev eCur : Nat) {f : Nat} (hf : 1 ≤ f) :
    (windowAllowance lw n sPrev eCur f = 0 ∨ sPrev + eCur + windowAllowance lw n sPrev eCur f * f ≤ p lw * n * 600) ∧
      p lw * n * 600 < sPrev + eCur + (windowAllowance lw n sPrev eCur f + 1) * f := by
  obtain ⟨hle, hlt⟩ := spread_spec ((p lw * n * 600 : Nat) - (sPrev : Int) - eCur) hf
  change (windowAllowance lw n sPrev eCur f = 0 ∨ (windowAllowance lw n sPrev eCur f : Int) * f ≤ _) at hle
  change _ < ((windowAllowance lw n sPrev eCur f : Int) + 1) * f at hlt
  constructor <;> zify <;> omega

theorem sessionAllowance_spec (ls total eS : Nat) {fS : Nat} (hf : 1 ≤ fS) :
    (sessionAllowance ls total eS fS = 0 ∨ eS + sessionAllowance ls total eS fS * fS ≤ p ls * total) ∧
      p ls * total < eS + (sessionAllowance ls total eS fS + 1) * fS := by
  obtain ⟨hle, hlt⟩ := spread_spec ((p ls * total : Nat) - (eS : Int)) hf
  change (sessionAllowance ls total eS fS = 0 ∨ (sessionAllowance ls total eS fS : Int) * fS ≤ _) at hle
  change _ < ((sessionAllowance ls total eS fS : Int) + 1) * fS at hlt
  constructor <;> zify <;> omega

/-- What a bucket counts as for the allowance of its tier (R118). -/
def bucketContent (full : Int) (b : Bucket) : Int :=
  match b with
  | .full => full
  | .amount x => max (-full) (min full x)

theorem fastAllowance_eq (lf depth horizon : Nat) (b : Bucket) :
    fastAllowance lf depth horizon b = ((p lf : Int) + bucketContent ((p lf : Int) * depth) b / horizon).toNat := by
  have hfull : (0 : Int) ≤ (p lf : Int) * depth := by positivity
  unfold fastAllowance bucketContent
  cases b with
  | full => simp [fullBucket]
  | amount x =>
    have hclamp : ∀ full : Int, 0 ≤ full → clampInt (-full) full x = max (-full) (min full x) := by
      intro full h
      unfold clampInt
      split <;> (try split) <;> omega
    simp [fullBucket, hclamp _ hfull]

theorem fastAllowance_spec (lf depth : Nat) {horizon : Nat} (b : Bucket) (hh : 1 ≤ horizon) :
    let content := bucketContent ((p lf : Int) * depth) b
    let a : Int := fastAllowance lf depth horizon b
    (a = 0 ∨ (a - p lf) * horizon ≤ content) ∧ content < (a + 1 - p lf) * horizon := by
  have hpos : (0 : Int) < horizon := by omega
  rw [fastAllowance_eq]
  set content := bucketContent ((p lf : Int) * depth) b
  have hle := Int.ediv_mul_le content hpos.ne'
  have hlt := Int.lt_ediv_add_one_mul_self content hpos
  rcases le_or_gt 0 ((p lf : Int) + content / horizon) with h | h
  · rw [Int.toNat_of_nonneg h]
    exact ⟨.inr (by convert hle using 2; ring), by convert hlt using 2; ring⟩
  · rw [Int.toNat_of_nonpos h.le]
    refine ⟨.inl rfl, hlt.trans_le ?_⟩
    exact mul_le_mul_of_nonneg_right (by push_cast; omega) hpos.le

/-! ### The tiers present (R121) -/

section
variable (i : PassInputs) (k : PointId)

/-- The allowance of the fast tier of a point, where it is present (R118). -/
def fastPart : List (Nat × Tier) :=
  ((i.zones.get (i.snap.points.get k).zone).lf.map fun lf =>
    (fastAllowance lf i.depth i.horizon (i.snap.points.get k).bucket, Tier.fast)).toList

/-- The allowance of the window tier of a point, where it is present (R119). -/
def windowPart : List (Nat × Tier) :=
  let q := i.snap.points.get k
  if q.nUsed = 0 then []
  else ((i.zones.get q.zone).window.map fun w => (windowAllowance w.lw q.nUsed q.sPrev q.eCur i.snap.f, Tier.window)).toList

/-- The allowance of the session tier of a point, where it is present (R120). -/
def sessionPart : List (Nat × Tier) :=
  let q := i.snap.points.get k
  ((i.session.bind fun x => (x.ls.get q.zone).map fun ls =>
    (sessionAllowance ls x.fS q.eS i.snap.fS, Tier.session))).toList

theorem allowances_eq : i.allowances k = fastPart i k ++ windowPart i k ++ sessionPart i k := by
  unfold PassInputs.allowances fastPart windowPart sessionPart
  dsimp only
  congr 1
  · congr 1
    · cases (i.zones.get (i.snap.points.get k).zone).lf <;> rfl
    · cases (i.zones.get (i.snap.points.get k).zone).window with
      | none => simp
      | some w => rfl
  · cases i.session with
    | none => rfl
    | some x => cases h : x.ls.get (i.snap.points.get k).zone <;> simp [h]

variable {i k}

theorem mem_fastPart {a : Nat} {tier : Tier} : (a, tier) ∈ fastPart i k ↔ tier = .fast ∧
    ∃ lf, (i.zones.get (i.snap.points.get k).zone).lf = some lf ∧
      a = fastAllowance lf i.depth i.horizon (i.snap.points.get k).bucket := by
  simp only [fastPart, Option.mem_toList, Option.map_eq_some_iff, Prod.mk.injEq]
  constructor
  · rintro ⟨lf, h, rfl, rfl⟩
    exact ⟨rfl, lf, h, rfl⟩
  · rintro ⟨rfl, lf, h, rfl⟩
    exact ⟨lf, h, rfl, rfl⟩

theorem mem_windowPart {a : Nat} {tier : Tier} : (a, tier) ∈ windowPart i k ↔ tier = .window ∧
    let q := i.snap.points.get k
    ∃ w, (i.zones.get q.zone).window = some w ∧ 1 ≤ q.nUsed ∧ a = windowAllowance w.lw q.nUsed q.sPrev q.eCur i.snap.f := by
  unfold windowPart
  dsimp only
  split
  case isTrue h => simp [h]
  case isFalse h =>
    simp only [Option.mem_toList, Option.map_eq_some_iff, Prod.mk.injEq]
    constructor
    · rintro ⟨w, hw, rfl, rfl⟩
      exact ⟨rfl, w, hw, Nat.one_le_iff_ne_zero.2 h, rfl⟩
    · rintro ⟨rfl, w, hw, -, rfl⟩
      exact ⟨w, hw, rfl, rfl⟩

theorem mem_sessionPart {a : Nat} {tier : Tier} : (a, tier) ∈ sessionPart i k ↔ tier = .session ∧
    let q := i.snap.points.get k
    ∃ y ls, i.session = some y ∧ y.ls.get q.zone = some ls ∧ a = sessionAllowance ls y.fS q.eS i.snap.fS := by
  simp only [sessionPart, Option.mem_toList, Option.bind_eq_some_iff, Option.map_eq_some_iff, Prod.mk.injEq]
  constructor
  · rintro ⟨y, hy, ls, hls, rfl, rfl⟩
    exact ⟨rfl, y, ls, hy, hls, rfl⟩
  · rintro ⟨rfl, y, ls, hy, hls, rfl⟩
    exact ⟨y, hy, ls, hls, rfl, rfl⟩

theorem mem_allowances {x : Nat × Tier} :
    x ∈ i.allowances k ↔ x ∈ fastPart i k ∨ x ∈ windowPart i k ∨ x ∈ sessionPart i k := by
  rw [allowances_eq, List.mem_append, List.mem_append, or_assoc]

variable (i k)

/-- The tiers present stand in the order F, W, S. -/
theorem allowances_ordered : (i.allowances k).Pairwise fun x y => tierValues.idxOf x.2 ≤ tierValues.idxOf y.2 := by
  have fast : ∀ x ∈ fastPart i k, x.2 = .fast := fun x hx => (mem_fastPart.1 hx).1
  have window : ∀ x ∈ windowPart i k, x.2 = .window := fun x hx => (mem_windowPart.1 hx).1
  have session : ∀ x ∈ sessionPart i k, x.2 = .session := fun x hx => (mem_sessionPart.1 hx).1
  rw [allowances_eq, List.pairwise_append, List.pairwise_append]
  refine ⟨⟨?_, ?_, fun x hx y hy => ?_⟩, ?_, fun x hx y hy => ?_⟩
  · exact List.pairwise_of_forall_mem_list fun x hx y hy => by rw [fast x hx, fast y hy]
  · exact List.pairwise_of_forall_mem_list fun x hx y hy => by rw [window x hx, window y hy]
  · rw [fast x hx, window y hy]; decide
  · exact List.pairwise_of_forall_mem_list fun x hx y hy => by rw [session x hx, session y hy]
  · rw [session y hy]; cases x.2 <;> decide

end

/-! ### The least of some keyed values -/

theorem least_eq_none {κ α : Type} {lt : κ → κ → Bool} {l : List (κ × α)} : least lt l = none ↔ l = [] := by
  cases l with
  | nil => simp [least]
  | cons x xs =>
    unfold least
    split
    · simp
    · split <;> simp

/-- The least is in the list, is below or equal to every key, and the first of equal ones in the list's order. -/
theorem least_spec {κ α : Type} [LinearOrder κ] {R : κ × α → κ × α → Prop} (hR : ∀ x, R x x) {l : List (κ × α)} (hl : l.Pairwise R)
    {y : κ × α} (h : least (fun a b => decide (a < b)) l = some y) :
    y ∈ l ∧ ∀ x ∈ l, y.1 < x.1 ∨ (y.1 = x.1 ∧ R y x) := by
  induction l generalizing y with
  | nil => cases h
  | cons x xs ih =>
    obtain ⟨hx, hxs⟩ := List.pairwise_cons.1 hl
    unfold least at h
    split at h
    case h_1 hnone =>
      cases h
      rw [least_eq_none.1 hnone]
      simp [hR]
    case h_2 z hz =>
      obtain ⟨hmem, hleast⟩ := ih hxs hz
      split at h
      case isTrue hlt =>
        cases h
        exact ⟨List.mem_cons_of_mem _ hmem, List.forall_mem_cons.2 ⟨.inl (of_decide_eq_true hlt), hleast⟩⟩
      case isFalse hge =>
        cases h
        have hle : x.1 ≤ z.1 := not_lt.1 fun hlt => hge (decide_eq_true hlt)
        refine ⟨List.mem_cons_self .., List.forall_mem_cons.2 ⟨.inr ⟨rfl, hR x⟩, fun w hw => ?_⟩⟩
        have hzw : z.1 ≤ w.1 := (hleast w hw).elim le_of_lt fun e => e.1.le
        exact (hle.trans hzw).lt_or_eq.imp_right fun e => ⟨e, hx w hw⟩

theorem pointAllowance_eq_none {i : PassInputs} {k : PointId} :
    i.pointAllowance k = none ↔ (i.snap.points.get k).enabled = false ∨ i.allowances k = [] := by
  unfold PassInputs.pointAllowance
  cases (i.snap.points.get k).enabled <;> simp [least_eq_none]

theorem pointAllowance_eq_some {i : PassInputs} {k : PointId} {a : Nat} {tier : Tier} (h : i.pointAllowance k = some (a, tier)) :
    (i.snap.points.get k).enabled = true ∧ (a, tier) ∈ i.allowances k ∧
      ∀ x ∈ i.allowances k, a < x.1 ∨ (a = x.1 ∧ tierValues.idxOf tier ≤ tierValues.idxOf x.2) := by
  unfold PassInputs.pointAllowance at h
  split at h
  case isTrue hon => exact ⟨hon, least_spec (fun _ => Nat.le_refl _) (allowances_ordered i k) h⟩
  case isFalse => cases h

/-! ### Attribution (R122, R123) -/

theorem contribution_of_code {i : PassInputs} {t : StageId} {k : PointId} {c : Int} (hon : (i.stages.get t).enabled = true)
    (hc : (i.coupling.get t).get k = some c) : i.contribution t k = p (i.attributed t + c) := by
  simp [PassInputs.contribution, hon, hc]

theorem contribution_eq_zero {i : PassInputs} {t : StageId} {k : PointId}
    (h : (i.stages.get t).enabled = false ∨ (i.coupling.get t).get k = none) : i.contribution t k = 0 := by
  unfold PassInputs.contribution
  rcases h with h | h <;> simp [h]

theorem background_eq {i : PassInputs} {k : PointId} {m : Nat} (h : (i.snap.points.get k).power = some m) :
    i.background k = m - (i.contribution 0 k + i.contribution 1 k + i.contribution 2 k + i.contribution 3 k) := by
  simp [PassInputs.background, h, allStages, Nat.add_assoc]

theorem mem_constrained {i : PassInputs} {c : Constrained} : c ∈ i.constrained ↔
    i.pointAllowance c.point = some (c.allowance, c.tier) ∧ c.background = i.background c.point ∧
      c.available = c.allowance - c.background := by
  simp only [PassInputs.constrained, List.mem_filterMap, Option.map_eq_some_iff]
  constructor
  · rintro ⟨k, -, a, ha, rfl⟩
    exact ⟨ha, rfl, rfl⟩
  · rintro ⟨ha, hb, hv⟩
    refine ⟨c.point, mem_allPoints _, _, ha, ?_⟩
    rw [← hb, ← hv]

/-! ### Shares (R125) -/

theorem isIdle_iff {i : PassInputs} {t : StageId} :
    i.isIdle t = true ↔ (i.stages.get t).enabled = true ∧ ∃ a, i.activity.get t = some a ∧ a.idle = true := by
  unfold PassInputs.isIdle
  cases i.activity.get t <;> simp

theorem isPlaying_iff {i : PassInputs} {t : StageId} :
    i.isPlaying t = true ↔ (i.stages.get t).enabled = true ∧ i.isIdle t = false := by
  simp [PassInputs.isPlaying]

theorem effectiveShare_of_playing {i : PassInputs} {t : StageId} (ht : i.isPlaying t = true) (hp : 0 < i.shareSum i.isPlaying) :
    i.effectiveShare t =
      (i.stages.get t).share + (i.stages.get t).share * i.shareSum i.isIdle / i.shareSum i.isPlaying := if_pos ⟨ht, hp⟩

theorem effectiveShare_of_not {i : PassInputs} {t : StageId} (h : ¬ (i.isPlaying t = true ∧ 0 < i.shareSum i.isPlaying)) :
    i.effectiveShare t = (i.stages.get t).share := if_neg h

/-- Floored parts of a whole sum to no more than the floored part of the sum. -/
theorem sum_mul_div_le {α : Type} (f : α → Nat) (n d : Nat) (l : List α) :
    (l.map fun x => f x * n / d).sum ≤ (l.map f).sum * n / d := by
  induction l with
  | nil => simp
  | cons x xs ih =>
    simp only [List.map_cons, List.sum_cons, Nat.add_mul]
    exact (Nat.add_le_add_left ih _).trans (Nat.div_add_div_le_add_div ..)

/-- The playing stages are lent no more than the idle ones hold. -/
theorem sum_effectiveShare_le (i : PassInputs) :
    ((allStages.filter i.isPlaying).map i.effectiveShare).sum ≤ i.shareSum i.isPlaying + i.shareSum i.isIdle := by
  rcases Nat.eq_zero_or_pos (i.shareSum i.isPlaying) with hz | hp
  · have own : i.effectiveShare = fun t => (i.stages.get t).share := by
      funext t
      exact effectiveShare_of_not (by omega)
    rw [own]
    exact Nat.le_add_right _ _
  · have lent : (allStages.filter i.isPlaying).map i.effectiveShare = (allStages.filter i.isPlaying).map fun t =>
        (i.stages.get t).share + (i.stages.get t).share * i.shareSum i.isIdle / i.shareSum i.isPlaying :=
      List.map_congr_left fun t ht => effectiveShare_of_playing (List.mem_filter.1 ht).2 hp
    have parts := sum_mul_div_le (fun t => (i.stages.get t).share) (i.shareSum i.isIdle) (i.shareSum i.isPlaying)
      (allStages.filter i.isPlaying)
    rw [show ((allStages.filter i.isPlaying).map fun t => (i.stages.get t).share).sum = i.shareSum i.isPlaying from rfl,
      Nat.mul_div_cancel_left _ hp] at parts
    rw [lent, List.sum_map_add]
    exact Nat.add_le_add_left parts _

/-- Settles O44: each figure by its own lemma. -/
theorem allowancesAndSharesAreBounded : Obligations.AllowancesAndSharesAreBounded := by
  refine ⟨fun lf depth horizon b hh => ?_, fun lw n sPrev eCur f hf => windowAllowance_spec lw n sPrev eCur hf,
    fun ls total eS fS hf => sessionAllowance_spec ls total eS hf, fun i k a => ?_,
    fun i k => ⟨pointAllowance_eq_none, fun a tier h => pointAllowance_eq_some h⟩,
    fun i t k => ⟨fun c hon hc => ?_, contribution_eq_zero⟩, fun i k m h => ?_, fun i c => ?_,
    fun i t => ⟨isIdle_iff, isPlaying_iff⟩,
    fun i => ⟨sum_effectiveShare_le i, fun t hon hidle => ?_, fun t => effectiveShare_of_playing, fun hz t => ?_⟩⟩
  · have h := fastAllowance_spec lf depth b hh
    cases b <;> exact h
  · simp [mem_allowances, mem_fastPart, mem_windowPart, mem_sessionPart]
  · rw [contribution_of_code hon hc, PassInputs.attributed]
    cases (i.snap.stages.get t).second <;> rfl
  · dsimp only
    rw [background_eq h]
    omega
  · refine mem_constrained.trans (and_congr_right fun _ => and_congr_right fun _ => ?_)
    omega
  · exact effectiveShare_of_not (by simp [isPlaying_iff, hidle])
  · exact effectiveShare_of_not (by simp only [PassInputs.shareSum]; omega)

end Sys2Proof.Proofs.Allocation
end

section
/-!
The targets of a pass (06_the_allocation_pass.md: R112, R126 to R131): by which case each is chosen, and that it is the highest that
levels and curfew line permit.
-/

namespace Sys2Proof.Proofs.Targets

open Sys2Proof Sys2Proof.Machine
open Sys2Proof.Proofs.PassStart (approaching_eq_some)
open Sys2Proof.Proofs.Allocation (least_eq_none least_spec)

variable {i : PassInputs} {t : StageId}

/-! ### Levels (R126, R127) -/

/-- `l` is the level that the constrained point `c` allows the stage (R126). -/
def levelAt (i : PassInputs) (t : StageId) (c : Constrained) (l : Int) : Prop :=
  c ∈ i.constrained ∧ ∃ x, (i.coupling.get t).get c.point = some x ∧
    let a := c.available * i.effectiveShare t / 256
    (a = 0 → l = 0) ∧ (a ≠ 0 → l = lv a - x)

theorem allowedLevel_iff {available share : Nat} {x l : Int} :
    l = allowedLevel available share x ↔
      (available * share / 256 = 0 → l = 0) ∧ (available * share / 256 ≠ 0 → l = lv ((available * share / 256 : Nat) : Int) - x) := by
  unfold allowedLevel
  by_cases h : available * share / 256 = 0 <;> simp [h]

/-- The levels of a stage with their points, in point order. -/
def levelList (i : PassInputs) (t : StageId) : List (Int × Constrained) :=
  i.constrained.filterMap fun c =>
    ((i.coupling.get t).get c.point).map fun x => (allowedLevel c.available (i.effectiveShare t) x, c)

theorem allowedMinimum_eq (i : PassInputs) (t : StageId) :
    i.allowedMinimum t = least (fun a b => decide (a < b)) (levelList i t) := rfl

theorem mem_levelList {c : Constrained} {l : Int} : (l, c) ∈ levelList i t ↔ levelAt i t c l := by
  simp only [levelList, levelAt, List.mem_filterMap, Option.map_eq_some_iff, Prod.mk.injEq, ← allowedLevel_iff]
  constructor
  · rintro ⟨d, hd, x, hx, rfl, rfl⟩
    exact ⟨hd, x, hx, rfl⟩
  · rintro ⟨hc, x, hx, rfl⟩
    exact ⟨c, hc, x, hx, rfl, rfl⟩

theorem constrained_ordered (i : PassInputs) : i.constrained.Pairwise fun c d => c.point < d.point := by
  refine List.Pairwise.filterMap _ (R := fun j k : PointId => j < k) ?_ (by decide)
  intro j k hjk c hc d hd
  obtain ⟨_, _, rfl⟩ := Option.map_eq_some_iff.1 hc
  obtain ⟨_, _, rfl⟩ := Option.map_eq_some_iff.1 hd
  exact hjk

theorem levelList_ordered (i : PassInputs) (t : StageId) : (levelList i t).Pairwise fun x y => x.2.point ≤ y.2.point := by
  refine (constrained_ordered i).filterMap _ ?_
  intro c d hcd x hx y hy
  obtain ⟨_, _, rfl⟩ := Option.map_eq_some_iff.1 hx
  obtain ⟨_, _, rfl⟩ := Option.map_eq_some_iff.1 hy
  exact hcd.le

theorem allowedMinimum_eq_none : i.allowedMinimum t = none ↔ ∀ c l, ¬ levelAt i t c l := by
  rw [allowedMinimum_eq, least_eq_none, List.eq_nil_iff_forall_not_mem, Prod.forall]
  exact ⟨fun h c l hl => h l c (mem_levelList.2 hl), fun h l c hl => h c l (mem_levelList.1 hl)⟩

/-- The minimum is a level, and of the first point where several points allow it (R127, step 1). -/
theorem allowedMinimum_eq_some {l : Int} {c : Constrained} (h : i.allowedMinimum t = some (l, c)) :
    levelAt i t c l ∧ ∀ d m, levelAt i t d m → l < m ∨ (l = m ∧ c.point ≤ d.point) := by
  obtain ⟨hmem, hleast⟩ := least_spec (R := fun x y => x.2.point ≤ y.2.point) (fun _ => le_rfl) (levelList_ordered i t) h
  exact ⟨mem_levelList.1 hmem, fun d m hd => hleast (m, d) (mem_levelList.2 hd)⟩

/-- What the constrained points leave a stage: the allowed minimum, or its top where none constrains it (R127, step 2). -/
def lowestLevel (i : PassInputs) (t : StageId) : Int := ((i.allowedMinimum t).map (·.1)).getD (i.stages.get t).top

theorem lowestLevel_le {c : Constrained} {l : Int} (h : levelAt i t c l) : lowestLevel i t ≤ l := by
  unfold lowestLevel
  cases hm : i.allowedMinimum t with
  | none => exact absurd h (allowedMinimum_eq_none.1 hm c l)
  | some x =>
    rcases (allowedMinimum_eq_some hm).2 c l h with hlt | ⟨he, _⟩
    · exact hlt.le
    · exact he.le

theorem lowestLevel_attained (i : PassInputs) (t : StageId) :
    (∃ c, levelAt i t c (lowestLevel i t)) ∨ ((∀ c l, ¬ levelAt i t c l) ∧ lowestLevel i t = (i.stages.get t).top) := by
  unfold lowestLevel
  cases hm : i.allowedMinimum t with
  | none => exact .inr ⟨allowedMinimum_eq_none.1 hm, rfl⟩
  | some x => exact .inl ⟨x.2, (allowedMinimum_eq_some hm).1⟩

/-! ### The choice (R127 to R130) -/

/-- The curfew line stands at `l` for the stage (R128). -/
def lineAt (i : PassInputs) (t : StageId) (l : Nat) : Prop :=
  let g := i.stages.get t
  ∃ n, i.curfew.next = some n ∧ 1 ≤ n.ramp ∧ n.t ≤ n.ramp * 60 ∧ l = g.floor + (g.top - g.floor) * n.t / (n.ramp * 60)

theorem approachLine_iff {l : Nat} : i.curfew.approaching.map (curfewLine (i.stages.get t)) = some l ↔ lineAt i t l := by
  simp only [Option.map_eq_some_iff, approaching_eq_some, lineAt, curfewLine]
  constructor
  · rintro ⟨n, ⟨hn, hr, ht⟩, rfl⟩
    exact ⟨n, hn, hr, ht, rfl⟩
  · rintro ⟨n, hn, hr, ht, rfl⟩
    exact ⟨n, ⟨hn, hr, ht⟩, rfl⟩

theorem lineAt_unique {l m : Nat} (hl : lineAt i t l) (hm : lineAt i t m) : l = m :=
  Option.some.inj ((approachLine_iff.2 hl).symm.trans (approachLine_iff.2 hm))

/-- A target stands under the curfew line where that is below every level, and otherwise at the lowest level (R127, R128). -/
theorem allocate_cases (i : PassInputs) (t : StageId) :
    let g := i.stages.get t
    (∃ l, lineAt i t l ∧ (l : Int) < lowestLevel i t ∧ i.allocate t = (clampTarget g l, .approach, ⟨.curfew, none, none⟩)) ∨
    ((∀ l, lineAt i t l → lowestLevel i t ≤ l) ∧ i.allocate t = (clampTarget g (lowestLevel i t), .allocated,
      allocatedConstraint g (clampTarget g (lowestLevel i t)) ((i.allowedMinimum t).map (·.2)))) := by
  dsimp only
  unfold PassInputs.allocate
  dsimp only
  split
  case h_1 l hl =>
    rw [approachLine_iff] at hl
    split
    case isTrue hlt => exact .inl ⟨l, hl, hlt, rfl⟩
    case isFalse hge => exact .inr ⟨fun m hm => by rw [lineAt_unique hm hl]; exact not_lt.1 hge, rfl⟩
  case h_2 hnone =>
    refine .inr ⟨fun m hm => ?_, rfl⟩
    rw [approachLine_iff.2 hm] at hnone
    cases hnone

theorem coe_clampTarget {g : StageSettings} (h : g.floor ≤ g.top) (l : Int) :
    (clampTarget g l : Int) = max (g.floor : Int) (min (g.top : Int) l) := by
  unfold clampTarget clampInt
  split <;> (try split) <;> omega

theorem select_stop (h : i.curfew.stop = true) : i.select t = ((i.stages.get t).floor, .stop, ⟨.stop, none, none⟩) := by
  simp [PassInputs.select, h]

theorem select_open (h : i.curfew.stop = false) (ho : i.isOpen = true) : i.select t = i.allocate t := by
  simp [PassInputs.select, h, ho]

theorem select_survey (h : i.curfew.stop = false) (ho : i.isOpen = false) {l : Nat} (hl : i.target = some (t, l)) :
    i.select t = (clampTo (i.stages.get t).floor (i.stages.get t).top l, .survey, ⟨.survey, none, none⟩) := by
  simp [PassInputs.select, PassInputs.surveyLevel, h, ho, hl]

theorem select_closed (h : i.curfew.stop = false) (ho : i.isOpen = false) (hl : ∀ l, i.target ≠ some (t, l)) :
    i.select t = ((i.stages.get t).floor, .closed, ⟨.closed, none, none⟩) := by
  have none : i.surveyLevel t = none := by
    unfold PassInputs.surveyLevel
    split
    case h_1 u l hu => exact if_neg fun e : u = t => hl l (by rw [hu, e])
    case h_2 => rfl
  simp [PassInputs.select, h, ho, none]

/-- In an open session the target lies between floor and top (R127, step 3; R128). -/
theorem allocate_within (hg : (i.stages.get t).floor ≤ (i.stages.get t).top) :
    (i.stages.get t).floor ≤ (i.allocate t).1 ∧ (i.allocate t).1 ≤ (i.stages.get t).top := by
  rcases allocate_cases i t with ⟨l, _, _, h⟩ | ⟨_, h⟩ <;> rw [h]
  · have := coe_clampTarget hg l
    dsimp only
    omega
  · have := coe_clampTarget hg (lowestLevel i t)
    dsimp only
    omega

/-! ### The constraint named (R131) -/

/-- The mark is that of the end of the range that the target stands at, and the point and tier are those of the governing level; at
the top no tier is named (assumption 17). -/
theorem allocatedConstraint_spec {g : StageSettings} {target : Nat} (m : Option Constrained) (hg : g.floor < g.top)
    (hle : target ≤ g.top) (hge : g.floor ≤ target) :
    let named := allocatedConstraint g target m
    (named.mark = .top ↔ target = g.top) ∧ (named.mark = .floor ↔ target = g.floor) ∧
    (named.mark = .none ↔ g.floor < target ∧ target < g.top) ∧
    named.point = m.map (·.point) ∧ named.tier = if named.mark = .top then none else m.map (·.tier) := by
  unfold allocatedConstraint
  dsimp only
  split
  case isTrue htop => simp; omega
  case isFalse htop =>
    split
    case isTrue hfloor => simp; omega
    case isFalse hfloor => simp; omega

/-- The constraint of a target of another kind than ALLOCATED is its kind's mark. -/
theorem select_names_of_mark {target : Nat} {k : TargetKind} {named : Constraint} (h : i.select t = (target, k, named))
    (hk : k ≠ .allocated) (hn : (k = .stop → named = ⟨.stop, none, none⟩) ∧ (k = .survey → named = ⟨.survey, none, none⟩) ∧
      (k = .closed → named = ⟨.closed, none, none⟩) ∧ (k = .approach → named = ⟨.curfew, none, none⟩)) :
    i.names t (i.select t).2.2 := by
  have hkind : (i.select t).2.1 = k := by rw [h]
  have hnamed : (i.select t).2.2 = named := by rw [h]
  obtain ⟨hstop, hsurvey, hclosed, happroach⟩ := hn
  rw [hnamed]
  exact ⟨fun e => hstop (hkind.symm.trans e), fun e => hsurvey (hkind.symm.trans e), fun e => hclosed (hkind.symm.trans e),
    fun e => happroach (hkind.symm.trans e), fun e => absurd (hkind.symm.trans e) hk⟩

/-- The constraint of an open session is the one that set the target. -/
theorem select_names_open (hs : i.curfew.stop = false) (ho : i.isOpen = true) : i.names t (i.select t).2.2 := by
  rcases allocate_cases i t with ⟨l, _, _, h⟩ | ⟨_, h⟩
  · exact select_names_of_mark ((select_open hs ho).trans h) (by decide) (by simp)
  · unfold PassInputs.names
    dsimp only
    rw [select_open hs ho]
    have hkind : (i.allocate t).2.1 = .allocated := by rw [h]
    have other : ∀ {k : TargetKind} {P : Prop}, k ≠ .allocated → (i.allocate t).2.1 = k → P := fun hk e => absurd (e.symm.trans hkind) hk
    refine ⟨other (by decide), other (by decide), other (by decide), other (by decide), fun _ hg => ?_⟩
    obtain ⟨hfloor, htop⟩ := allocate_within (t := t) hg.le
    rw [h] at hfloor htop
    obtain ⟨hmtop, hmfloor, hmnone, hpoint, htier⟩ := allocatedConstraint_spec ((i.allowedMinimum t).map (·.2)) hg htop hfloor
    rw [h]
    refine ⟨hmtop, hmfloor, hmnone, fun hno => ?_, fun hlevel => ?_⟩
    · have hnone : i.allowedMinimum t = none := allowedMinimum_eq_none.2 hno
      have hlow : lowestLevel i t = (i.stages.get t).top := by simp [lowestLevel, hnone]
      have htarget := coe_clampTarget hg.le (lowestLevel i t)
      simp only [allocatedConstraint, hnone, Option.map_none]
      rw [if_pos (by omega)]
    · cases hm : i.allowedMinimum t with
      | none =>
        obtain ⟨c, l, hl⟩ := hlevel
        exact absurd hl (allowedMinimum_eq_none.1 hm c l)
      | some x =>
        obtain ⟨hx, hleast⟩ := allowedMinimum_eq_some hm
        rw [hm] at hpoint htier
        exact ⟨x.2, x.1, hx, hleast, hpoint, htier⟩

theorem select_names (i : PassInputs) (t : StageId) : i.names t (i.select t).2.2 := by
  by_cases hs : i.curfew.stop = true
  · exact select_names_of_mark (select_stop hs) (by decide) (by simp)
  · rw [Bool.not_eq_true] at hs
    cases ho : i.isOpen with
    | true => exact select_names_open hs ho
    | false =>
      by_cases hl : ∃ l, i.target = some (t, l)
      · obtain ⟨l, hl⟩ := hl
        exact select_names_of_mark (select_survey hs ho hl) (by decide) (by simp)
      · exact select_names_of_mark (select_closed hs ho (not_exists.1 hl)) (by decide) (by simp)

/-! ### The target is the highest permitted -/

/-- Some constrained point allows the stage the level `l`. -/
def allowedAt (i : PassInputs) (t : StageId) (l : Int) : Prop :=
  ∃ c ∈ i.constrained, ∃ x, (i.coupling.get t).get c.point = some x ∧
    let a := c.available * i.effectiveShare t / 256
    (a = 0 → l = 0) ∧ (a ≠ 0 → l = lv a - x)

/-- What a target of an open session is, by levels and curfew line alone. -/
theorem allocate_highest (hg : (i.stages.get t).floor ≤ (i.stages.get t).top) :
    let g := i.stages.get t
    let target := (i.allocate t).1
    let kind := (i.allocate t).2.1
    (kind = .approach ↔
      ∃ l, lineAt i t l ∧ (∀ x, allowedAt i t x → (l : Int) < x) ∧ ((∀ x, ¬ allowedAt i t x) → l < g.top)) ∧
    (target = g.floor ∨ ((∀ x, allowedAt i t x → (target : Int) ≤ x) ∧ ∀ l, lineAt i t l → target ≤ l)) ∧
    (∀ x : Nat, x ≤ g.top → (∀ l, allowedAt i t l → (x : Int) ≤ l) → (∀ l, lineAt i t l → x ≤ l) → x ≤ target) ∧
    (target = g.top ∨ target = g.floor ∨ allowedAt i t target ∨ lineAt i t target) ∧
    (kind = .allocated ∨ kind = .approach) := by
  have low_le : ∀ x, allowedAt i t x → lowestLevel i t ≤ x := fun x ⟨_, hx⟩ => lowestLevel_le hx
  have low_at : allowedAt i t (lowestLevel i t) ∨ ((∀ x, ¬ allowedAt i t x) ∧ lowestLevel i t = (i.stages.get t).top) :=
    (lowestLevel_attained i t).imp_right fun h => ⟨fun x ⟨c, hx⟩ => h.1 c x hx, h.2⟩
  dsimp only
  rcases allocate_cases i t with ⟨l, hl, hlt, h⟩ | ⟨hline, h⟩ <;> rw [h]
  · have hT := coe_clampTarget hg l
    have hfloor : (i.stages.get t).floor ≤ l := by
      obtain ⟨n, _, _, _, rfl⟩ := hl
      exact Nat.le_add_right _ _
    refine ⟨iff_of_true rfl ⟨l, hl, fun x hx => hlt.trans_le (low_le x hx), fun hno => ?_⟩, .inr ⟨fun x hx => ?_, fun m hm => ?_⟩,
      fun x htop _ hx => ?_, ?_, .inr rfl⟩
    · rcases low_at with ha | ⟨_, he⟩
      · exact absurd ha (hno _)
      · omega
    · have := low_le x hx
      omega
    · rw [lineAt_unique hm hl]
      omega
    · have := hx l hl
      omega
    · rcases le_total (i.stages.get t).top l with htop | htop
      · exact .inl (by omega)
      · rw [show clampTarget (i.stages.get t) l = l by omega]
        exact .inr (.inr (.inr hl))
  · have hT := coe_clampTarget hg (lowestLevel i t)
    refine ⟨iff_of_false (by simp) ?_, ?_, fun x htop hx _ => ?_, ?_, .inl rfl⟩
    · rintro ⟨l, hl, hlt, hno⟩
      have hle := hline l hl
      rcases low_at with ha | ⟨hnone, he⟩
      · exact absurd (hlt _ ha) (not_lt.2 hle)
      · have := hno hnone
        omega
    · rcases le_total (lowestLevel i t) (i.stages.get t).floor with hlow | hlow
      · exact .inl (by omega)
      · refine .inr ⟨fun x hx => ?_, fun l hl => ?_⟩
        · have := low_le x hx
          omega
        · have := hline l hl
          omega
    · rcases low_at with ha | ⟨_, he⟩
      · have := hx _ ha
        omega
      · omega
    · rcases lt_or_ge (lowestLevel i t) (i.stages.get t).floor with hlow | hlow
      · exact .inr (.inl (by omega))
      · rcases le_total ((i.stages.get t).top : Int) (lowestLevel i t) with htop | htop
        · exact .inl (by omega)
        · rcases low_at with ha | ⟨_, he⟩
          · rw [show (clampTarget (i.stages.get t) (lowestLevel i t) : Int) = lowestLevel i t by omega]
            exact .inr (.inr (.inl ha))
          · exact .inl (by omega)

/-- A pass counts the session as open where its snapshot and its session do (R112). -/
theorem isOpen_iff (i : PassInputs) : i.isOpen = true ↔ i.snap.sessionOpen = true ∧ i.session ≠ none := by
  simp [PassInputs.isOpen, Option.isSome_iff_ne_none]

/-- Settles O45: the cases of R130 in turn, the open session's by levels and line. -/
theorem targetsRespectEveryAllowance : Obligations.TargetsRespectEveryAllowance := by
  refine fun i t => ⟨select_names i t, isOpen_iff i, fun hs => by simp [select_stop hs], fun hs ho => ⟨fun l hl => ?_, fun hl => ?_⟩,
    fun hs ho hg => ?_⟩
  · simp [select_survey hs ho hl]
  · simp [select_closed hs ho hl]
  · dsimp only
    rw [select_open hs ho]
    obtain ⟨hfloor, htop⟩ := allocate_within hg
    exact ⟨hfloor, htop, allocate_highest hg⟩

end Sys2Proof.Proofs.Targets
end

section
/-!
The lowering test of a grant record (07_stage_grants_and_enforcement.md: R146, R147, R154), and STAGE_WRITE (R115, R116, R139, R155,
R156), which reaches the engine, the survey and the grant record together.
-/

namespace Sys2Proof.Proofs.StageWrite

open Sys2Proof Sys2Proof.Machine
open Sys2Proof.Proofs.PassStart (report_frame tells_nothing tells_from)
open Sys2Proof.Proofs.StageMoves (rewrittenGrant)
open Sys2Proof.Proofs.Ceilings (loweringTest_frame loweringTest_c loweringTest_t)
open Sys2Proof.Proofs.Reads (serve_payload holdLine_iff)
open Sys2Proof.Proofs.SurveyAndTables (enabledShares_eq serve_turnDown abandonSurvey_tells)

/-! ### The lowering test -/

/-- R142: the last applied value is within the ceiling and the stage's top. -/
def withinCeiling (applied : Option Nat) (c top : Nat) : Prop := ∃ a, applied = some a ∧ a ≤ c + 50 ∧ a ≤ top

theorem within_iff (g : Grant) (top : Nat) : g.within top = true ↔ withinCeiling g.applied g.c top := by
  unfold Grant.within withinCeiling
  cases g.applied <;> simp

/-- R146, R147: record `g` becomes `h` as its applied value is judged against a new ceiling. -/
def judgedAs (g h : Grant) (within : Prop) (deadline : Nat) : Prop :=
  (g.compliance = .tracking → within → h.compliance = .tracking ∧ h.complianceTimer = g.complianceTimer) ∧
  (g.compliance = .tracking → ¬ within → h.compliance = .pending ∧ h.complianceTimer = some deadline) ∧
  (g.compliance = .pending → within → h.compliance = .tracking ∧ h.complianceTimer = none) ∧
  (g.compliance = .pending → ¬ within → h.compliance = .pending ∧ h.complianceTimer = g.complianceTimer) ∧
  (g.compliance = .releasing → h.compliance = .releasing ∧ (within → h.complianceTimer = none) ∧
    (¬ within → h.complianceTimer = some (g.complianceTimer.getD deadline)))

/-- R154: a record lowered from the ceiling `was` has its LOWERED notice. -/
def noticesLowering (g : Grant) (within : Prop) (c was : Nat) : Prop :=
  ¬ within ∧ (g.compliance = .tracking ∨ (g.compliance = .pending ∧ c < was) ∨
    (g.compliance = .releasing ∧ (g.complianceTimer = none ∨ c < was)))

theorem loweringTest_of_settled {g : Grant} (h : g.compliance = .enforced ∨ g.compliance = .disabled) (was top deadline : Nat) :
    g.loweringTest was top deadline = (g, false) := by
  unfold Grant.loweringTest
  rcases h with h | h <;> rw [h]

/-- The lowering test judges as R146 and R147 have it, and posts where R154 does. -/
theorem loweringTest_spec (g : Grant) (was top deadline : Nat) :
    judgedAs g (g.loweringTest was top deadline).1 (withinCeiling g.applied g.c top) deadline ∧
    ((g.loweringTest was top deadline).2 = true ↔ noticesLowering g (withinCeiling g.applied g.c top) g.c was) := by
  unfold judgedAs noticesLowering
  rw [← within_iff]
  unfold Grant.loweringTest
  cases hg : g.compliance with
  | disabled => simp
  | enforced => simp
  | tracking => by_cases hw : g.within top = true <;> simp [hw, hg]
  | pending => by_cases hw : g.within top = true <;> simp [hw, hg]
  | releasing =>
    by_cases hw : g.within top = true
    · simp [hw]
    · cases ht : g.complianceTimer <;> simp [hw, hg, ht]

theorem postLowered_tells (u : StageId) (g : Grant) (due : Bool) (s : State) :
    s.tells (postLowered u g due s) [] (if due then [.lowered u g.c] else []) := by
  unfold postLowered
  split
  · exact post_tells _ s
  · exact tells_nothing rfl rfl

/-! ### The grant unit's side of a STAGE_WRITE -/

section
variable {u : StageId} {old new : StageSettings} {s : State}

theorem regrant_enable (ho : old.enabled = false) (hn : new.enabled = true) :
    regrant u old new s = report (holdReport u .asserted .powerUp ((s.gu.grants.get u).enabled new.floor))
      (s.setGrant u ((s.gu.grants.get u).enabled new.floor)) := by
  simp [regrant, ho, hn]

theorem regrant_disable (ho : old.enabled = true) (hn : new.enabled = false) :
    regrant u old new s =
      if (s.gu.grants.get u).holdLine = true ∧ ¬ (s.gu.grants.get u).forced = true then
        report (holdReport u .released .disabled ((s.gu.grants.get u).disabledAt new.floor))
          (s.setGrant u ((s.gu.grants.get u).disabledAt new.floor))
      else s.setGrant u ((s.gu.grants.get u).disabledAt new.floor) := by
  simp [regrant, ho, hn]

theorem regrant_off (ho : old.enabled = false) (hn : new.enabled = false) :
    regrant u old new s = s.setGrant u { s.gu.grants.get u with c := new.floor, t := new.floor } := by
  simp [regrant, ho, hn]

theorem regrant_on (ho : old.enabled = true) (hn : new.enabled = true) :
    regrant u old new s =
      let x := (s.gu.grants.get u).refit old new s.settings.timing.deadline
      postLowered u x.1 x.2 (s.setGrant u x.1) := by
  simp [regrant, ho, hn]

/-- The grant unit's side changes the grant record, and with it the ring and the pending sets. -/
theorem regrant_frame (u : StageId) (old new : StageSettings) (s : State) : regrant u old new s =
    { s.setGrant u (rewrittenGrant (s.gu.grants.get u) old new s.settings.timing.deadline) with
      rr := (regrant u old new s).rr, nu := (regrant u old new s).nu } := by
  unfold rewrittenGrant
  cases ho : old.enabled <;> cases hn : new.enabled
  · rw [regrant_off ho hn]
  · rw [regrant_enable ho hn]
    exact report_frame _ _
  · rw [regrant_disable ho hn]
    split
    · exact report_frame _ _
    · rfl
  · rw [regrant_on ho hn]
    dsimp only [postLowered]
    split <;> rfl

/-- The hold line of a record is asserted by its compliance state alone (R151). -/
theorem holdLine_unforced_iff (g : Grant) :
    (g.holdLine = true ∧ ¬ g.forced = true) ↔ (g.compliance = .enforced ∨ g.compliance = .releasing) ∧ g.forced = false := by
  rw [holdLine_iff]
  unfold Grant.holds
  cases g.forced <;> simp

theorem report_holdReport_tells (u : StageId) (change : LineChange) (cause : Cause) (g : Grant) (s : State) :
    s.tells (report (holdReport u change cause g) (s.setGrant u g)) [.enforcement u change cause g.c g.last]
      [.hold u change cause] :=
  tells_from (report_tells (holdReport u change cause g) (s.setGrant u g) (by simp [holdReport, Notice.cls])) (fun _ _ => rfl) rfl rfl
    rfl rfl

end

/-! ### The grant record of a stage that stays enabled (R139) -/

/-- A record with its ceiling and target clamped to a stage's floor and top. -/
def clampedGrant (g : Grant) (q : StageSettings) : Grant := { g with c := clampTo q.floor q.top g.c, t := clampTo q.floor q.top g.t }

theorem refit_eq (g : Grant) (old new : StageSettings) (deadline : Nat) : g.refit old new deadline =
    if (clampedGrant g new).c = g.c ∧ new.top = old.top then (clampedGrant g new, false)
    else (clampedGrant g new).loweringTest g.c new.top deadline := rfl

/-- A record refitted to a new floor and top is clamped and, where its ceiling or the top changed, judged. -/
theorem refit_spec (g : Grant) (old new : StageSettings) (deadline : Nat) :
    let x := g.refit old new deadline
    let within := withinCeiling g.applied x.1.c new.top
    let changed := x.1.c ≠ g.c ∨ new.top ≠ old.top
    x.1 = { g with c := x.1.c, t := x.1.t, compliance := x.1.compliance, complianceTimer := x.1.complianceTimer } ∧
    x.1.c = clampTo new.floor new.top g.c ∧ x.1.t = clampTo new.floor new.top g.t ∧
    (¬ changed ∨ g.compliance = .enforced ∨ g.compliance = .disabled →
      x.1.compliance = g.compliance ∧ x.1.complianceTimer = g.complianceTimer) ∧
    (changed → judgedAs g x.1 within deadline) ∧
    (x.2 = true ↔ changed ∧ noticesLowering g within x.1.c g.c) := by
  rw [refit_eq]
  split
  case isTrue h =>
    have same : ¬ ((clampedGrant g new).c ≠ g.c ∨ new.top ≠ old.top) := by tauto
    exact ⟨rfl, rfl, rfl, fun _ => ⟨rfl, rfl⟩, fun hc => absurd hc same, by simp [same]⟩
  case isFalse h =>
    have hframe := loweringTest_frame (clampedGrant g new) g.c new.top deadline
    obtain ⟨hjudged, hdue⟩ := loweringTest_spec (clampedGrant g new) g.c new.top deadline
    have changed : (clampedGrant g new).c ≠ g.c ∨ new.top ≠ old.top := by tauto
    simp only [loweringTest_c, loweringTest_t]
    refine ⟨hframe, rfl, rfl, fun hset => ?_, fun _ => hjudged, ?_⟩
    · rw [loweringTest_of_settled (g := clampedGrant g new) (hset.resolve_left (not_not.2 changed))]
      exact ⟨rfl, rfl⟩
    · rw [hdue]
      exact ⟨fun h => ⟨changed, h⟩, fun h => h.2⟩

/-! ### An accepted STAGE_WRITE (R116) -/

/-- The stage's record and the engine's side of a STAGE_WRITE. -/
def stageStored (u : StageId) (new : StageSettings) (s : State) : State :=
  { s with
    settings := { s.settings with stages := s.settings.stages.set u new }
    ae := s.ae.rewrite u (s.settings.stages.get u).enabled new.enabled }

/-- A survey of stage `u` is abandoned where the stage is disabled. -/
def surveyDropped (u : StageId) (was now : Bool) (s : State) : State :=
  if was ∧ ¬ now ∧ s.cs.running ∧ s.cs.stage = u then abandonSurvey .operator s else s

theorem writeStage_eq (u : StageId) (new : StageSettings) (s : State) : writeStage u new s =
    regrant u (s.settings.stages.get u) new
      (surveyDropped u (s.settings.stages.get u).enabled new.enabled (stageStored u new s)) := rfl

/-- R104, R116: a survey of stage `u` runs. -/
abbrev surveyed (s : State) (u : StageId) : Prop := (s.cs.state = .quiet ∨ s.cs.state = .signal) ∧ s.cs.stage = u

theorem surveyDropped_of {u : StageId} {was now : Bool} {s : State} (h : was = true ∧ now = false ∧ surveyed s u) :
    surveyDropped u was now s = abandonSurvey .operator s := by
  obtain ⟨rfl, rfl, hrun, hu⟩ := h
  exact if_pos ⟨rfl, by simp, by simpa using hrun, hu⟩

theorem surveyDropped_of_not {u : StageId} {was now : Bool} {s : State} (h : ¬ (was = true ∧ now = false ∧ surveyed s u)) :
    surveyDropped u was now s = s :=
  if_neg fun ⟨hwas, hnow, hrun, hu⟩ => h ⟨hwas, by simpa using hnow, by simpa using hrun, hu⟩

theorem surveyDropped_frame (u : StageId) (was now : Bool) (s : State) : surveyDropped u was now s =
    { s with
      cs := if was = true ∧ now = false ∧ surveyed s u then { s.cs with state := .aborted, reason := some .operator } else s.cs
      nu := (surveyDropped u was now s).nu } := by
  by_cases h : was = true ∧ now = false ∧ surveyed s u
  · rw [if_pos h, surveyDropped_of h]
    rfl
  · rw [if_neg h, surveyDropped_of_not h]

theorem surveyDropped_tells (u : StageId) (was now : Bool) (s : State) : s.tells (surveyDropped u was now s) []
    (if was = true ∧ now = false ∧ surveyed s u then [.survey (some .operator) u] else []) := by
  by_cases h : was = true ∧ now = false ∧ surveyed s u
  · rw [if_pos h, surveyDropped_of h]
    have := abandonSurvey_tells .operator s
    rwa [h.2.2.2] at this
  · rw [if_neg h, surveyDropped_of_not h]
    exact tells_nothing rfl rfl

/-- What an accepted STAGE_WRITE leaves, but for the ring and the pending sets. -/
theorem writeStage_frame (u : StageId) (new : StageSettings) (s : State) :
    let old := s.settings.stages.get u
    writeStage u new s = { s with
      settings := { s.settings with stages := s.settings.stages.set u new }
      ae := s.ae.rewrite u old.enabled new.enabled
      cs := if old.enabled = true ∧ new.enabled = false ∧ surveyed s u then
        { s.cs with state := .aborted, reason := some .operator } else s.cs
      gu := { s.gu with
        grants := s.gu.grants.set u (rewrittenGrant (s.gu.grants.get u) old new s.settings.timing.deadline) }
      rr := (writeStage u new s).rr, nu := (writeStage u new s).nu } := by
  rw [writeStage_eq, regrant_frame, surveyDropped_frame]
  rfl

/-- An accepted STAGE_WRITE tells the survey's abandonment, and then what the grant unit's side tells. -/
theorem writeStage_tells {u : StageId} {new : StageSettings} {s : State} {bs : List RecordBody} {ns : List Notice}
    (h : ∀ m : State, m.gu = s.gu → m.settings.timing = s.settings.timing →
      m.tells (regrant u (s.settings.stages.get u) new m) bs ns)
    (hns : ∀ n ∈ ns, n.cls ≠ .ring) :
    s.tells (writeStage u new s) bs
      ((if (s.settings.stages.get u).enabled = true ∧ new.enabled = false ∧ surveyed s u then
        [.survey (some .operator) u] else []) ++ ns) := by
  have hframe := surveyDropped_frame u (s.settings.stages.get u).enabled new.enabled (stageStored u new s)
  have dropped := surveyDropped_tells u (s.settings.stages.get u).enabled new.enabled (stageStored u new s)
  have told := dropped.trans (h _ (by rw [hframe]; rfl) (by rw [hframe]; rfl)) (by rw [hframe]) (by rw [hframe]) hns
  exact tells_from told (fun _ _ => rfl) rfl rfl rfl rfl

/-! ### What each kind of STAGE_WRITE tells -/

section
variable {u : StageId} {old new : StageSettings} {s : State}

theorem regrant_enable_tells (ho : old.enabled = false) (hn : new.enabled = true) :
    s.tells (regrant u old new s) [.enforcement u .asserted .powerUp new.floor .blind] [.hold u .asserted .powerUp] := by
  rw [regrant_enable ho hn]
  exact report_holdReport_tells ..

theorem regrant_disable_tells (ho : old.enabled = true) (hn : new.enabled = false) :
    let g := s.gu.grants.get u
    let released := (g.compliance = .enforced ∨ g.compliance = .releasing) ∧ g.forced = false
    s.tells (regrant u old new s) (if released then [.enforcement u .released .disabled new.floor g.last] else [])
      (if released then [.hold u .released .disabled] else []) := by
  dsimp only
  rw [regrant_disable ho hn]
  simp only [holdLine_unforced_iff]
  split
  · exact report_holdReport_tells ..
  · exact tells_nothing rfl rfl

theorem regrant_on_tells (ho : old.enabled = true) (hn : new.enabled = true) :
    let x := (s.gu.grants.get u).refit old new s.settings.timing.deadline
    s.tells (regrant u old new s) [] (if x.2 then [.lowered u x.1.c] else []) := by
  rw [regrant_on ho hn]
  exact tells_from (postLowered_tells u _ _ _) (fun _ _ => rfl) rfl rfl rfl rfl

end

/-! ### The four kinds of a STAGE_WRITE (R116, R139, R155, R156) -/

section
variable {u : StageId} {new : StageSettings} {s : State}

/-- A stage that is enabled starts ENFORCED at its floor (R155). -/
theorem writeStage_enable (ho : (s.settings.stages.get u).enabled = false) (hn : new.enabled = true) :
    (writeStage u new s).gu.grants.get u = { s.gu.grants.get u with
      compliance := .enforced, cause := some .powerUp, complianceTimer := none, holdTimer := none, c := new.floor, t := new.floor
      kind := .closed, applied := none, overrun := 0, last := .blind } ∧
    s.tells (writeStage u new s) [.enforcement u .asserted .powerUp new.floor .blind] [.hold u .asserted .powerUp] ∧
    (writeStage u new s).ae = { s.ae with activity := s.ae.activity.set u (some ⟨false, 0⟩) } := by
  have told := writeStage_tells (fun m _ _ => regrant_enable_tells (s := m) ho hn) (by simp [Notice.cls])
  refine ⟨?_, by simpa [ho] using told, ?_⟩
  · rw [writeStage_frame]
    simp [rewrittenGrant, ho, hn, Grant.enabled, Grant.enforce]
  · rw [writeStage_frame]
    simp [Engine.rewrite, ho, hn]

/-- A stage that is disabled stands DISABLED at its floor, and a survey of it is abandoned (R156). -/
theorem writeStage_disable (ho : (s.settings.stages.get u).enabled = true) (hn : new.enabled = false) :
    let g := s.gu.grants.get u
    let released := (g.compliance = .enforced ∨ g.compliance = .releasing) ∧ g.forced = false
    (writeStage u new s).gu.grants.get u = { g with
      compliance := .disabled, complianceTimer := none, holdTimer := none, c := new.floor, t := new.floor, applied := none
      overrun := 0 } ∧
    s.tells (writeStage u new s) (if released then [.enforcement u .released .disabled new.floor g.last] else [])
      ((if surveyed s u then [.survey (some .operator) u] else []) ++ if released then [.hold u .released .disabled] else []) ∧
    (writeStage u new s).ae = { s.ae with
      activity := s.ae.activity.set u none
      figures := s.ae.figures.map fun f => { f with stages := f.stages.set u none }
      pass := s.ae.pass.map fun i => { i with dropped := i.dropped.set u true } } := by
  have told := writeStage_tells (fun m hgu _ => hgu ▸ regrant_disable_tells (s := m) ho hn) (by split <;> simp [Notice.cls])
  refine ⟨?_, by simpa only [ho, hn, true_and] using told, ?_⟩
  · rw [writeStage_frame]
    simp [rewrittenGrant, ho, hn, Grant.disabledAt]
  · rw [writeStage_frame]
    simp [Engine.rewrite, ho, hn]

/-- A disabled stage that stays so has its ceiling and target at its new floor. -/
theorem writeStage_off (ho : (s.settings.stages.get u).enabled = false) (hn : new.enabled = false) :
    (writeStage u new s).gu.grants.get u = { s.gu.grants.get u with c := new.floor, t := new.floor } ∧
    (writeStage u new s).ae = s.ae ∧ (writeStage u new s).rr = s.rr ∧ (writeStage u new s).nu = s.nu := by
  rw [writeStage_eq, ho, hn, surveyDropped_of_not (by simp), regrant_off ho hn]
  exact ⟨by simp [stageStored], by simp [stageStored, ho, hn, Engine.rewrite], rfl, rfl⟩

/-- A stage that stays enabled is clamped and judged (R139). -/
theorem writeStage_on (ho : (s.settings.stages.get u).enabled = true) (hn : new.enabled = true) :
    let x := (s.gu.grants.get u).refit (s.settings.stages.get u) new s.settings.timing.deadline
    (writeStage u new s).gu.grants.get u = x.1 ∧ (writeStage u new s).ae = s.ae ∧ (writeStage u new s).rr = s.rr ∧
    s.tells (writeStage u new s) [] (if x.2 then [.lowered u x.1.c] else []) := by
  have told := writeStage_tells (fun m hgu ht => hgu ▸ ht ▸ regrant_on_tells (s := m) ho hn) (by split <;> simp [Notice.cls])
  refine ⟨?_, ?_, told.1, by simpa [hn] using told⟩
  · rw [writeStage_frame]
    simp [rewrittenGrant, ho, hn]
  · rw [writeStage_frame]
    simp [Engine.rewrite, ho, hn]

end

/-! ### The request -/

/-- The shares that an enabling of stage `u` would count (R114, R116). -/
theorem enabledShares_set (stages : Bank 4 StageSettings) (u : StageId) {new : StageSettings} (hon : new.enabled = true)
    (hshare : new.share = (stages.get u).share) :
    enabledShares (stages.set u new) ((stages.set u new).renew fun _ g => g.share) =
      ((allStages.filter fun j => j = u || (stages.get j).enabled).map fun j => (stages.get j).share).sum := by
  have henabled : ∀ j, ((stages.set u new).get j).enabled = (decide (j = u) || (stages.get j).enabled) := fun j => by
    by_cases h : j = u <;> simp [Bank.get_set, h, hon]
  have hshares : ∀ j, ((stages.set u new).get j).share = (stages.get j).share := fun j => by
    by_cases h : j = u <;> simp [Bank.get_set, h, hshare]
  rw [enabledShares_eq]
  simp only [Bank.get_renew, henabled, hshares]

/-- What STAGE_WRITE's owner answers, its parameters being read (R115). -/
theorem ownerStageWrite_of_read (k : SlotId) {params : List Byte} (w : State) {u : StageId} {on : Bool} {floor top idle : Nat}
    (hr : readStage params = some (u, on, floor, top, idle)) :
    let old := w.settings.stages.get u
    ownerStageWrite k params w =
      if old.enabled = false ∧ on = true ∧ 256 < ((allStages.filter fun j => j = u || (w.settings.stages.get j).enabled).map fun j =>
          (w.settings.stages.get j).share).sum then turnDown .param w
      else if w.su.session ≠ none ∧ (on ≠ old.enabled ∨ floor ≠ old.floor ∨ top ≠ old.top) then turnDown (.state .sessionOpen) w
      else if w.st.saving ≠ none then turnDown .busy w
      else ok [] (writeStage u ⟨on, floor, top, idle, old.share⟩ w) := by
  have hsum : on = true → enabledShares _ _ = _ :=
    fun hon => enabledShares_set w.settings.stages u (new := ⟨on, floor, top, idle, (w.settings.stages.get u).share⟩) hon rfl
  simp only [ownerStageWrite, hr]
  refine if_congr ⟨fun ⟨hon, hoff, hlt⟩ => ?_, fun ⟨hoff, hon, hlt⟩ => ?_⟩ rfl (if_congr ?_ rfl (if_congr ?_ rfl rfl))
  · exact ⟨by simpa using hoff, hon, (hsum hon) ▸ hlt⟩
  · exact ⟨hon, by simp [hoff], (hsum hon).symm ▸ hlt⟩
  · simp
  · simp

/-- Settles O53: the owner's three conditions in turn, and past them the four kinds of a write. -/
theorem stageWriteTakesEffect : Obligations.StageWriteTakesEffect := by
  intro s w k params u on floor top idle hw hr
  obtain ⟨la, rfl⟩ : ∃ la, w = { s with la := la } := ⟨w.la, taken_eq hw.2.1⟩
  have ho := ownerStageWrite_of_read k { s with la := la } hr
  dsimp only at ho ⊢
  refine ⟨fun hx => ?_, fun hx hf => ?_, fun hx hf hs => ?_, fun hx hf hs => ?_⟩
  · exact serve_turnDown hw (ho.trans (if_pos hx))
  · exact serve_turnDown hw (ho.trans ((if_neg hx).trans (if_pos hf)))
  · exact serve_turnDown hw (ho.trans ((if_neg hx).trans ((if_neg hf).trans (if_pos hs))))
  · have accepted := serve_payload hw (ho.trans ((if_neg hx).trans ((if_neg hf).trans (if_neg (not_not.2 hs)))))
    have hframe := writeStage_frame u ⟨on, floor, top, idle, (s.settings.stages.get u).share⟩ { s with la := la }
    dsimp only at hframe
    refine ⟨_, accepted, by rw [hframe], fun j hj => ?_, by rw [hframe], by rw [hframe],
      ⟨fun hoff hon => ?_, fun hon hoff => ?_, fun h => ?_, fun hoff hoff' => ?_, fun hon hon' => ?_⟩, by rw [hframe], ?_⟩
    · rw [hframe]
      exact Bank.get_set_ne _ _ hj
    · exact writeStage_enable hoff hon
    · obtain ⟨hgrant, told, hae⟩ := writeStage_disable (s := { s with la := la })
        (new := ⟨on, floor, top, idle, (s.settings.stages.get u).share⟩) hon hoff
      refine ⟨hgrant, told, by rw [hae], by rw [hae], by rw [hae], fun f hf => ?_, fun hf => ?_, fun i hi => ?_, fun hi => ?_⟩
      all_goals rw [hae]
      · simp [hf]
      · simp [hf]
      · simp [hi]
      · simp [hi]
    · cases hon : on with
      | false =>
        obtain ⟨_, hae, hrr, _⟩ := writeStage_off (s := { s with la := la })
          (new := ⟨false, floor, top, idle, (s.settings.stages.get u).share⟩) (h.trans hon) rfl
        exact ⟨hae, hrr⟩
      | true =>
        obtain ⟨_, hae, hrr, _⟩ := writeStage_on (s := { s with la := la })
          (new := ⟨true, floor, top, idle, (s.settings.stages.get u).share⟩) (h.trans hon) rfl
        exact ⟨hae, hrr⟩
    · obtain ⟨hgrant, _, _, hnu⟩ := writeStage_off (s := { s with la := la })
        (new := ⟨on, floor, top, idle, (s.settings.stages.get u).share⟩) hoff hoff'
      exact ⟨hgrant, hnu⟩
    · obtain ⟨hgrant, _, _, told⟩ := writeStage_on (s := { s with la := la })
        (new := ⟨on, floor, top, idle, (s.settings.stages.get u).share⟩) hon hon'
      obtain ⟨hx, hc, ht, hsame, hjudged, hdue⟩ := refit_spec (s.gu.grants.get u) (s.settings.stages.get u)
        ⟨on, floor, top, idle, (s.settings.stages.get u).share⟩ s.settings.timing.deadline
      rw [hgrant]
      refine ⟨hx, hc, ht, hsame, hjudged, ?_⟩
      convert told using 1
      exact if_congr hdue.symm rfl rfl
    · exact hframe.trans (by rw [hframe])

end Sys2Proof.Proofs.StageWrite
end

section
/-!
The taking of a pass result (06_the_allocation_pass.md: R113, R132; 07_stage_grants_and_enforcement.md: R136 to R138, R146, R147, R149,
R153, R154): what an entry makes of a stage's record, what the stages in order tell, and the figures that stay.
-/

namespace Sys2Proof.Proofs.PassResult

open Sys2Proof Sys2Proof.Machine
open Sys2Proof.Proofs.PassStart (loud_iff report_frame tells_nothing startPass_passStarts)
open Sys2Proof.Proofs.Ceilings (overrunTest_cases movedGrant judgedGrant takeEntry_eq judgedGrant_frame)
open Sys2Proof.Proofs.Allocation (mem_constrained pointAllowance_eq_some)
open Sys2Proof.Proofs.StageWrite

/-! ### The overrun test (R149) -/

section
variable {g : Grant} {x : Second} {set : Timing}

/-- A stage's second is above its ceiling by more than the margin. -/
def aboveMargin (g : Grant) (x : Second) (set : Timing) : Prop := ∃ l, x = .seeing l ∧ g.c + set.overrunMargin < l

/-- A stage's second is the one that fills the overrun count. -/
def overruns (g : Grant) (x : Second) (set : Timing) : Prop := aboveMargin g x set ∧ set.overrunCount ≤ g.overrun + 1

theorem loud_iff_aboveMargin : x.loud (g.c + set.overrunMargin + 1) = true ↔ aboveMargin g x set := loud_iff x _

theorem overrunTest_below (h : ¬ aboveMargin g x set) : g.overrunTest x set = ({ g with overrun := 0 }, false) := by
  unfold Grant.overrunTest
  rw [if_neg (mt loud_iff_aboveMargin.1 h)]

theorem overrunTest_counts (h : aboveMargin g x set) (hn : ¬ overruns g x set) :
    g.overrunTest x set = ({ g with overrun := g.overrun + 1 }, false) := by
  unfold Grant.overrunTest
  rw [if_pos (loud_iff_aboveMargin.2 h), if_neg fun hc => hn ⟨h, hc⟩]

theorem overrunTest_overruns (h : overruns g x set) : g.overrunTest x set =
    if g.isEnforced then ({ g with overrun := 0 }, false) else ({ g.enforce .overrun with overrun := 0 }, true) := by
  unfold Grant.overrunTest
  rw [if_pos (loud_iff_aboveMargin.2 h.1), if_pos h.2]

/-- Short of an overrun the test touches the count alone. -/
theorem overrunTest_of_not (h : ¬ overruns g x set) : ∃ n, g.overrunTest x set = ({ g with overrun := n }, false) := by
  by_cases ha : aboveMargin g x set
  · exact ⟨_, overrunTest_counts ha h⟩
  · exact ⟨_, overrunTest_below ha⟩

end

/-! ### The move (R137, R138) -/

/-- A ceiling goes to its target by slew for the kinds ALLOCATED and APPROACH, and at once for the others. -/
theorem moveCeiling_eq (kind : TargetKind) (c t down up : Nat) : moveCeiling kind c t down up =
    if kind = .allocated ∨ kind = .approach then (if t < c then max t (c - down) else min t (c + up)) else t := by
  have slew : (if t < c then max t (c - down) else if c < t then min t (c + up) else c) =
      if t < c then max t (c - down) else min t (c + up) := by
    split
    · rfl
    · split <;> omega
  unfold moveCeiling
  cases kind <;> simp [TargetKind.bySlew, slew]

/-! ### What an entry makes of a record (R136) -/

section
variable (g : Grant) (e : PassEntry) (q : StageSettings) (set : Timing)

/-- The move does not touch what the overrun test leaves of the rest. -/
theorem movedGrant_eq : movedGrant g e q set = { (g.overrunTest e.second set).1 with
    c := clampTo q.floor q.top (moveCeiling e.kind g.c e.target set.downRate set.upRate)
    t := clampTo q.floor q.top e.target
    kind := e.kind } := by
  have hc : (g.overrunTest e.second set).1.c = g.c := by
    rcases overrunTest_cases g e.second set with ⟨n, h⟩ | h <;> simp [h, Grant.enforce]
  rw [movedGrant, Grant.move, hc]

theorem takeEntry_frame : (g.takeEntry e q set).1 =
    { (g.takeEntry e q set).1 with
      c := clampTo q.floor q.top (moveCeiling e.kind g.c e.target set.downRate set.upRate)
      t := clampTo q.floor q.top e.target
      kind := e.kind, last := e.second, applied := g.applied, forced := g.forced, session := g.session
      overrun := (g.overrunTest e.second set).1.overrun } := by
  rw [takeEntry_eq, judgedGrant_frame, movedGrant_eq]
  rcases overrunTest_cases g e.second set with ⟨n, h⟩ | h <;> simp [h, Grant.enforce]

/-- Where the ceiling stays or the record is settled, nothing is judged. -/
theorem judgedGrant_of_settled (h : (movedGrant g e q set).c = g.c ∨ (movedGrant g e q set).compliance = .enforced ∨
    (movedGrant g e q set).compliance = .disabled) : judgedGrant g e q set = (movedGrant g e q set, false) := by
  unfold judgedGrant
  split
  · rfl
  case isFalse hc => exact loweringTest_of_settled (h.resolve_left hc) ..

/-- An overrun leaves the stage ENFORCED: it enters with cause OVERRUN and both timers stopped, or the count alone restarts. -/
theorem takeEntry_overruns (h : overruns g e.second set) :
    let x := g.takeEntry e q set
    x.1.overrun = 0 ∧ x.1.compliance = .enforced ∧ (x.2.1 = true ↔ g.compliance ≠ .enforced) ∧ x.2.2 = false ∧
    (g.compliance ≠ .enforced → x.1.cause = some .overrun ∧ x.1.complianceTimer = none ∧ x.1.holdTimer = none) ∧
    (g.compliance = .enforced →
      x.1.cause = g.cause ∧ x.1.complianceTimer = g.complianceTimer ∧ x.1.holdTimer = g.holdTimer) := by
  dsimp only
  have test := overrunTest_overruns h
  have moved := movedGrant_eq g e q set
  by_cases hg : g.compliance = .enforced
  · rw [if_pos (by simpa [Grant.isEnforced] using hg)] at test
    rw [test] at moved
    rw [takeEntry_eq, judgedGrant_of_settled g e q set (.inr (.inl (by rw [moved]; exact hg))), moved, test]
    simp [hg]
  · rw [if_neg (by simpa [Grant.isEnforced] using hg)] at test
    rw [test] at moved
    rw [takeEntry_eq, judgedGrant_of_settled g e q set (.inr (.inl (by rw [moved]; rfl))), moved, test]
    simp [hg, Grant.enforce]

/-- Short of an overrun the record is judged where its ceiling changed, by its compliance state (R146, R147, R154). -/
theorem takeEntry_judges (h : ¬ overruns g e.second set) :
    let x := g.takeEntry e q set
    let within := withinCeiling g.applied x.1.c q.top
    x.2.1 = false ∧ x.1.cause = g.cause ∧ x.1.holdTimer = g.holdTimer ∧
    (x.1.c = g.c ∨ g.compliance = .enforced ∨ g.compliance = .disabled →
      x.1.compliance = g.compliance ∧ x.1.complianceTimer = g.complianceTimer) ∧
    (x.1.c ≠ g.c → judgedAs g x.1 within set.deadline) ∧
    (x.2.2 = true ↔ x.1.c ≠ g.c ∧ noticesLowering g within x.1.c g.c) := by
  dsimp only
  obtain ⟨n, test⟩ := overrunTest_of_not h
  have moved := movedGrant_eq g e q set
  rw [test] at moved
  have frame := judgedGrant_frame g e q set
  have same : (judgedGrant g e q set).1.c = (movedGrant g e q set).c := by rw [frame]
  have keeps : (judgedGrant g e q set).1.cause = g.cause ∧ (judgedGrant g e q set).1.holdTimer = g.holdTimer := by
    rw [frame, moved]
    exact ⟨rfl, rfl⟩
  have settled : (movedGrant g e q set).c = g.c ∨ g.compliance = .enforced ∨ g.compliance = .disabled →
      judgedGrant g e q set = (movedGrant g e q set, false) :=
    fun hset => judgedGrant_of_settled g e q set (by rw [moved] at hset ⊢; exact hset)
  rw [takeEntry_eq, test]
  simp only [same]
  refine ⟨trivial, keeps.1, keeps.2, fun hset => ?_, fun hc => ?_, ?_⟩
  · rw [settled hset, moved]
    exact ⟨rfl, rfl⟩
  · rw [judgedGrant, if_neg hc]
    have := (loweringTest_spec (movedGrant g e q set) g.c q.top set.deadline).1
    rw [moved] at this ⊢
    exact this
  · by_cases hc : (movedGrant g e q set).c = g.c
    · rw [settled (.inl hc)]
      simp [hc]
    · have := (loweringTest_spec (movedGrant g e q set) g.c q.top set.deadline).2
      rw [judgedGrant, if_neg hc]
      rw [moved] at this hc ⊢
      exact this.trans (iff_and_self.2 fun _ => hc)

theorem takeEntry_overrun_count :
    let h := (g.takeEntry e q set).1
    (¬ aboveMargin g e.second set → h.overrun = 0) ∧
    (aboveMargin g e.second set → ¬ overruns g e.second set → h.overrun = g.overrun + 1) := by
  dsimp only
  rw [takeEntry_frame]
  exact ⟨fun h => by rw [overrunTest_below h], fun h hn => by rw [overrunTest_counts h hn]⟩

end

/-- All that an entry makes of a record. -/
theorem takeEntry_spec (g : Grant) (e : PassEntry) (q : StageSettings) (set : Timing) :
    let h := (g.takeEntry e q set).1
    let fills := overruns g e.second set
    let within := withinCeiling h.applied h.c q.top
    h.c = clampTo q.floor q.top (if e.kind = .allocated ∨ e.kind = .approach then
      (if e.target < g.c then max e.target (g.c - set.downRate) else min e.target (g.c + set.upRate)) else e.target) ∧
    h.t = clampTo q.floor q.top e.target ∧ h.kind = e.kind ∧ h.last = e.second ∧
    h.applied = g.applied ∧ h.forced = g.forced ∧ h.session = g.session ∧
    (¬ aboveMargin g e.second set → h.overrun = 0) ∧ (fills → h.overrun = 0) ∧
    (aboveMargin g e.second set → ¬ fills → h.overrun = g.overrun + 1) ∧
    (fills → h.compliance = .enforced) ∧
    (fills → g.compliance ≠ .enforced → h.cause = some .overrun ∧ h.complianceTimer = none ∧ h.holdTimer = none) ∧
    (fills → g.compliance = .enforced →
      h.cause = g.cause ∧ h.complianceTimer = g.complianceTimer ∧ h.holdTimer = g.holdTimer) ∧
    (¬ fills → h.cause = g.cause ∧ h.holdTimer = g.holdTimer) ∧
    (¬ fills → h.c = g.c ∨ g.compliance = .enforced ∨ g.compliance = .disabled →
      h.compliance = g.compliance ∧ h.complianceTimer = g.complianceTimer) ∧
    (¬ fills → h.c ≠ g.c → judgedAs g h within set.deadline) := by
  dsimp only
  have frame := takeEntry_frame g e q set
  have happlied : (g.takeEntry e q set).1.applied = g.applied := by rw [frame]
  obtain ⟨below, counts⟩ := takeEntry_overrun_count g e q set
  rw [happlied, ← moveCeiling_eq]
  refine ⟨by rw [frame], by rw [frame], by rw [frame], by rw [frame], rfl, by rw [frame], by rw [frame], below, ?_, counts, ?_⟩
  · exact fun h => (takeEntry_overruns g e q set h).1
  by_cases h : overruns g e.second set
  · obtain ⟨-, henforced, -, -, enters, stays⟩ := takeEntry_overruns g e q set h
    simp only [h, not_true_eq_false, false_implies, true_implies, and_true]
    exact ⟨henforced, enters, stays⟩
  · obtain ⟨-, hcause, htimer, settled, judged, -⟩ := takeEntry_judges g e q set h
    simp only [h, not_false_eq_true, false_implies, true_implies, true_and]
    exact ⟨⟨hcause, htimer⟩, settled, judged⟩

/-! ### One stage of a result (R136, R153, R154) -/

/-- The record of a stage after a result, whether it entered ENFORCED, and whether LOWERED is due. A stage without an entry, or one
disabled, stays. -/
def worked (r : PassOutcome) (s : State) (u : StageId) : Grant × Bool × Bool :=
  match r.entries.get u with
  | none => (s.gu.grants.get u, false, false)
  | some e =>
    if (s.settings.stages.get u).enabled then
      (s.gu.grants.get u).takeEntry e (s.settings.stages.get u) s.settings.timing
    else (s.gu.grants.get u, false, false)

section
variable {r : PassOutcome} {s : State} {u : StageId}

theorem worked_of_entry {e : PassEntry} (he : r.entries.get u = some e) (hon : (s.settings.stages.get u).enabled = true) :
    worked r s u = (s.gu.grants.get u).takeEntry e (s.settings.stages.get u) s.settings.timing := by
  simp [worked, he, hon]

theorem worked_of_stay (h : r.entries.get u = none ∨ (s.settings.stages.get u).enabled = false) :
    worked r s u = (s.gu.grants.get u, false, false) := by
  unfold worked
  rcases h with h | h
  · rw [h]
  · simp only [h, Bool.false_eq_true, if_false]
    split <;> rfl

theorem worked_congr {t : State} (hg : t.settings = s.settings) (hu : t.gu.grants.get u = s.gu.grants.get u) :
    worked r t u = worked r s u := by
  unfold worked
  rw [hg, hu]

theorem takeStage_of_stay (h : r.entries.get u = none ∨ (s.settings.stages.get u).enabled = false) : takeStage r u s = s := by
  unfold takeStage
  rcases h with h | h
  · rw [h]
  · simp only [h, Bool.false_eq_true, if_false]
    split <;> rfl

theorem takeStage_of_entry {e : PassEntry} (he : r.entries.get u = some e) (hon : (s.settings.stages.get u).enabled = true) :
    takeStage r u s =
      let x := worked r s u
      postLowered u x.1 x.2.2
        (if x.2.1 then report (holdReport u .asserted .overrun x.1) (s.setGrant u x.1) else s.setGrant u x.1) := by
  simp [takeStage, worked, he, hon]

end

/-- A stage has an entry and is enabled, or stays. -/
theorem entry_or_stays (r : PassOutcome) (s : State) (u : StageId) :
    (∃ e, r.entries.get u = some e ∧ (s.settings.stages.get u).enabled = true) ∨
    (r.entries.get u = none ∨ (s.settings.stages.get u).enabled = false) := by
  cases r.entries.get u <;> cases (s.settings.stages.get u).enabled <;> simp

theorem postLowered_frame (u : StageId) (g : Grant) (due : Bool) (s : State) :
    postLowered u g due s = { s with nu := (postLowered u g due s).nu } := by
  unfold postLowered
  split <;> rfl

/-- One stage of a result changes its own record, and with it the ring and the pending sets. -/
theorem takeStage_frame (r : PassOutcome) (u : StageId) (s : State) : takeStage r u s =
    { s.setGrant u (worked r s u).1 with rr := (takeStage r u s).rr, nu := (takeStage r u s).nu } := by
  rcases entry_or_stays r s u with ⟨e, he, hon⟩ | h
  · rw [takeStage_of_entry he hon]
    dsimp only
    rw [postLowered_frame]
    split
    · rw [report_frame]
    · rfl
  · have same : s.gu.grants.set u (s.gu.grants.get u) = s.gu.grants := Bank.ext_get fun k => by
      rw [Bank.get_set]
      split <;> simp_all
    rw [takeStage_of_stay h, worked_of_stay h]
    simp only [State.setGrant, same]

/-! ### What the stages tell, in order -/

section
variable (x : StageId → Grant × Bool × Bool)

/-- The ENFORCEMENT records of the stages that enter ENFORCED (R153). -/
def entryRecords (l : List StageId) : List RecordBody :=
  (l.filter fun u => (x u).2.1).map fun u => .enforcement u .asserted .overrun (x u).1.c (x u).1.last

/-- The HOLD notices of the stages that enter ENFORCED (R153). -/
def entryNotices (l : List StageId) : List Notice := (l.filter fun u => (x u).2.1).map fun u => .hold u .asserted .overrun

/-- The LOWERED notices of the stages lowered (R154). -/
def loweredNotices (l : List StageId) : List Notice := (l.filter fun u => (x u).2.2).map fun u => .lowered u (x u).1.c

@[simp] theorem entryRecords_cons (u : StageId) (l : List StageId) :
    entryRecords x (u :: l) = entryRecords x [u] ++ entryRecords x l := by
  simp only [entryRecords, ← List.map_append, ← List.filter_append, List.singleton_append]

@[simp] theorem entryNotices_cons (u : StageId) (l : List StageId) :
    entryNotices x (u :: l) = entryNotices x [u] ++ entryNotices x l := by
  simp only [entryNotices, ← List.map_append, ← List.filter_append, List.singleton_append]

@[simp] theorem loweredNotices_cons (u : StageId) (l : List StageId) :
    loweredNotices x (u :: l) = loweredNotices x [u] ++ loweredNotices x l := by
  simp only [loweredNotices, ← List.map_append, ← List.filter_append, List.singleton_append]

theorem cls_of_mem_entryNotices {l : List StageId} {n : Notice} (h : n ∈ entryNotices x l) : n.cls = .hold := by
  obtain ⟨u, -, rfl⟩ := List.mem_map.1 h
  rfl

theorem cls_of_mem_loweredNotices {l : List StageId} {n : Notice} (h : n ∈ loweredNotices x l) : n.cls = .lowered := by
  obtain ⟨u, -, rfl⟩ := List.mem_map.1 h
  rfl

end

theorem takeStage_tells (r : PassOutcome) (u : StageId) (s : State) : s.tells (takeStage r u s) (entryRecords (worked r s) [u])
    (entryNotices (worked r s) [u] ++ loweredNotices (worked r s) [u]) := by
  rcases entry_or_stays r s u with ⟨e, he, hon⟩ | h
  · rw [takeStage_of_entry he hon]
    dsimp only
    set x := worked r s u with hx
    have entered : s.tells
        (if x.2.1 then report (holdReport u .asserted .overrun x.1) (s.setGrant u x.1) else s.setGrant u x.1)
        (entryRecords (worked r s) [u]) (entryNotices (worked r s) [u]) := by
      cases hf : x.2.1 with
      | true => simpa [entryRecords, entryNotices, ← hx, hf] using report_holdReport_tells u .asserted .overrun x.1 s
      | false => simpa [entryRecords, entryNotices, ← hx, hf] using tells_nothing (s := s) (t := s.setGrant u x.1) rfl rfl
    have lowered := postLowered_tells u x.1 x.2.2
      (if x.2.1 then report (holdReport u .asserted .overrun x.1) (s.setGrant u x.1) else s.setGrant u x.1)
    have both := entered.trans lowered (by split <;> simp) (by split <;> simp) (by split <;> simp [Notice.cls])
    have hl : loweredNotices (worked r s) [u] = if x.2.2 then [.lowered u x.1.c] else [] := by
      cases hf : x.2.2 <;> simp [loweredNotices, ← hx, hf]
    rwa [List.append_nil, ← hl] at both
  · rw [takeStage_of_stay h]
    simpa [entryRecords, entryNotices, loweredNotices, worked_of_stay h] using tells_nothing rfl rfl

/-- Postings of different classes may come in either order. -/
theorem posted_swap {xs ys : List Notice} (h : ∀ x ∈ xs, ∀ y ∈ ys, y.rank ≠ x.rank) (s : State) :
    s.posted (xs ++ ys) = s.posted (ys ++ xs) := by
  induction xs generalizing s with
  | nil => simp
  | cons x xs ih =>
    calc s.posted (x :: xs ++ ys)
      _ = (post x s).posted (ys ++ xs) := ih (fun a ha => h a (List.mem_cons_of_mem _ ha)) _
      _ = s.posted ((x :: ys) ++ xs) := rfl
      _ = s.posted ((ys ++ [x]) ++ xs) := by rw [posted_append, posted_last (h x (List.mem_cons_self ..)), ← posted_append]
      _ = s.posted (ys ++ x :: xs) := by simp

/-- What is told may be told with adjacent notices of different classes in the other order. -/
theorem tells_swap {s t : State} {bs : List RecordBody} {as xs ys cs : List Notice} (h : ∀ x ∈ xs, ∀ y ∈ ys, y.rank ≠ x.rank)
    (told : s.tells t bs ((as ++ xs) ++ (ys ++ cs))) : s.tells t bs ((as ++ ys) ++ (xs ++ cs)) := by
  obtain ⟨hr, hn⟩ := told
  refine ⟨hr, hn.trans ?_⟩
  have swap : ∀ (m : State) (ds : List Notice), m.posted ((xs ++ ys) ++ ds) = m.posted ((ys ++ xs) ++ ds) := fun m ds => by
    rw [posted_append, posted_swap h, ← posted_append]
  simp only [List.append_assoc]
  rw [posted_append, posted_append s as]
  simpa only [List.append_assoc] using swap _ _

/-- The stages of a result, in order. -/
def takeStages (r : PassOutcome) (l : List StageId) (s : State) : State := l.foldl (fun s u => takeStage r u s) s

section
variable (r : PassOutcome)

theorem takeStages_cons (u : StageId) (l : List StageId) (s : State) :
    takeStages r (u :: l) s = takeStages r l (takeStage r u s) := rfl

theorem takeStages_frame (l : List StageId) (s : State) : takeStages r l s =
    { s with
      gu := { s.gu with grants := (takeStages r l s).gu.grants }
      rr := (takeStages r l s).rr, nu := (takeStages r l s).nu } := by
  induction l generalizing s with
  | nil => rfl
  | cons u l ih =>
    rw [takeStages_cons, ih, takeStage_frame]
    rfl

/-- The stages of a result leave each other's working alone. -/
theorem worked_takeStage {u v : StageId} (h : v ≠ u) (s : State) : worked r (takeStage r u s) v = worked r s v := by
  rw [takeStage_frame]
  exact worked_congr rfl (Bank.get_set_ne _ _ h)

theorem takeStages_grant {l : List StageId} (hl : l.Nodup) (s : State) (v : StageId) :
    (takeStages r l s).gu.grants.get v = if v ∈ l then (worked r s v).1 else s.gu.grants.get v := by
  induction l generalizing s with
  | nil => simp [takeStages]
  | cons u l ih =>
    obtain ⟨hu, hl⟩ := List.nodup_cons.1 hl
    rw [takeStages_cons, ih hl]
    by_cases hv : v = u
    · subst hv
      rw [if_neg hu, takeStage_frame]
      simp
    · rw [worked_takeStage r hv, takeStage_frame]
      simp [hv, Bank.get_set_ne]

/-- The stages of a result tell the entries' records, and their notices before those of the lowerings. -/
theorem takeStages_tells {l : List StageId} (hl : l.Nodup) (s : State) {x : StageId → Grant × Bool × Bool}
    (hx : ∀ v ∈ l, worked r s v = x v) :
    s.tells (takeStages r l s) (entryRecords x l) (entryNotices x l ++ loweredNotices x l) := by
  induction l generalizing s with
  | nil => exact tells_nothing rfl rfl
  | cons u l ih =>
    obtain ⟨hu, hl⟩ := List.nodup_cons.1 hl
    obtain ⟨hxu, hxl⟩ := List.forall_mem_cons.1 hx
    have front := takeStage_tells r u s
    have rest := ih hl (takeStage r u s) fun v hv => by
      rw [worked_takeStage r (ne_of_mem_of_not_mem hv hu)]
      exact hxl v hv
    have both := front.trans rest (by rw [takeStage_frame]; rfl) (by rw [takeStage_frame]; rfl) fun n hn => by
      rcases List.mem_append.1 hn with hn | hn
      · simp [cls_of_mem_entryNotices _ hn]
      · simp [cls_of_mem_loweredNotices _ hn]
    have single : entryRecords (worked r s) [u] = entryRecords x [u] ∧ entryNotices (worked r s) [u] = entryNotices x [u] ∧
        loweredNotices (worked r s) [u] = loweredNotices x [u] := by
      simp [entryRecords, entryNotices, loweredNotices, List.filter_cons, hxu]
    obtain ⟨er, en, el⟩ := single
    rw [er, en, el] at both
    rw [takeStages_cons, entryRecords_cons, entryNotices_cons, loweredNotices_cons]
    refine tells_swap (fun m hm n hn => ?_) both
    simp [Notice.rank, cls_of_mem_loweredNotices _ hm, cls_of_mem_entryNotices _ hn, NoticeClass.rank]

end

/-! ### The figures (R113, R132) -/

section
variable (i : PassInputs)

/-- The entry of a stage that has one. -/
def entryOf (u : StageId) : PassEntry :=
  ⟨(i.select u).1, (i.select u).2.1, (i.snap.stages.get u).second, i.isIdle u,
    if i.isOpen = true then i.effectiveShare u else (i.stages.get u).share, (i.select u).2.2⟩

/-- The figures that a pass leaves. -/
def figuresOf : Figures := ⟨i.outcome.entries, i.outcome.points⟩

variable {i}

theorem entries_eq_some {u : StageId} (hd : i.dropped.get u = false) (hon : (i.stages.get u).enabled = true) :
    i.outcome.entries.get u = some (entryOf i u) := by
  simp [PassInputs.outcome, PassInputs.entry, entryOf, hd, hon]

theorem entries_eq_none {u : StageId} (h : i.dropped.get u = true ∨ (i.stages.get u).enabled = false) :
    i.outcome.entries.get u = none := by
  rcases h with h | h <;> simp [PassInputs.outcome, PassInputs.entry, h]

/-- A constrained point has one set of figures. -/
theorem constrained_unique {c d : Constrained} (hc : c ∈ i.constrained) (hd : d ∈ i.constrained) (h : c.point = d.point) : c = d := by
  obtain ⟨ca, cb, cv⟩ := mem_constrained.1 hc
  obtain ⟨da, db, dv⟩ := mem_constrained.1 hd
  rw [← h] at da db
  obtain ⟨ha, ht⟩ := Prod.mk.inj (Option.some.inj (ca.symm.trans da))
  have hb := cb.trans db.symm
  rw [ha, hb, ← dv] at cv
  cases c
  cases d
  simp_all

theorem standing_of_unconstrained {k : PointId} (hon : (i.snap.points.get k).enabled = true) (h : i.pointAllowance k = none) :
    i.standing k = some .unconstrained := by
  have none : i.constrained.find? (fun c => c.point = k) = none := List.find?_eq_none.2 fun c hc hk => by
    have hk : c.point = k := by simpa using hk
    have := (mem_constrained.1 hc).1
    rw [hk, h] at this
    cases this
  simp [PassInputs.standing, hon, none]

theorem standing_of_constrained {c : Constrained} (hc : c ∈ i.constrained) :
    i.standing c.point = some (.constrained ⟨lv c.allowance, c.tier, lv c.background, lv c.available⟩) := by
  have hon : (i.snap.points.get c.point).enabled = true := (pointAllowance_eq_some (mem_constrained.1 hc).1).1
  have found : i.constrained.find? (fun d => d.point = c.point) = some c := by
    cases hf : i.constrained.find? (fun d => d.point = c.point) with
    | none => exact absurd (by simp) (List.find?_eq_none.1 hf c hc)
    | some d => rw [constrained_unique hc (List.mem_of_find?_eq_some hf) (by simpa using List.find?_some hf : d.point = c.point).symm]
  simp [PassInputs.standing, hon, found]

end

/-! ### A result taken (R136) -/

section
variable (r : PassOutcome) (s : State)

theorem takeResult_eq : takeResult r s =
    { takeStages r allStages s with
      gu := { (takeStages r allStages s).gu with approach := r.approach, curfew := r.curfew }
      ae := { (takeStages r allStages s).ae with figures := some ⟨r.entries, r.points⟩, pass := none } } := rfl

theorem takeResult_frame : takeResult r s =
    { s with ae := (takeResult r s).ae, gu := (takeResult r s).gu, rr := (takeResult r s).rr, nu := (takeResult r s).nu } := by
  rw [takeResult_eq, takeStages_frame]

theorem takeResult_ae : (takeResult r s).ae = { s.ae with figures := some ⟨r.entries, r.points⟩, pass := none } := by
  rw [takeResult_eq, takeStages_frame]

theorem takeResult_grant (u : StageId) : (takeResult r s).gu.grants.get u = (worked r s u).1 := by
  have h := takeStages_grant r (l := allStages) (by decide) s u
  rwa [if_pos (mem_allStages u)] at h

theorem takeResult_tells : s.tells (takeResult r s) (entryRecords (worked r s) allStages)
    (entryNotices (worked r s) allStages ++ loweredNotices (worked r s) allStages) :=
  takeStages_tells r (by decide) s fun _ _ => rfl

/-- The stages of a test, in stage order. -/
theorem filter_allStages (f : StageId → Bool) : (allStages.filter f).Pairwise (· < ·) ∧ ∀ u, u ∈ allStages.filter f ↔ f u = true :=
  ⟨List.Pairwise.filter f (by decide), fun u => by simp [mem_allStages]⟩

end

theorem passResult_of_pass {s : State} {i : PassInputs} (h : s.ae.pass = some i) : passResult s = takeResult i.outcome s := by
  simp [passResult, startWaiting, h]

theorem passResult_of_none {s : State} (hp : s.ae.pass = none) (hh : s.ae.handed = none) : passResult s = s := by
  simp [passResult, startWaiting, hp, hh]

/-- A waiting snapshot is taken first (R110). -/
theorem passResult_of_waiting {s : State} {snap : Snapshot} (hp : s.ae.pass = none) (hh : s.ae.handed = some snap) :
    passResult s = passResult (startPass snap s) := by
  obtain ⟨-, -, i, hi, -, -⟩ := startPass_ae s snap
  rw [passResult_of_pass hi]
  simp [passResult, startWaiting, hp, hh, hi]

/-! ### What a result makes of the stages -/

section
variable {i : PassInputs} {s : State} {u : StageId}

/-- The stage has an entry in the result of the pass, and is enabled. -/
def takenBy (i : PassInputs) (s : State) (u : StageId) : Prop :=
  i.dropped.get u = false ∧ (i.stages.get u).enabled = true ∧ (s.settings.stages.get u).enabled = true

theorem worked_of_taken (h : takenBy i s u) : worked i.outcome s u =
    (s.gu.grants.get u).takeEntry (entryOf i u) (s.settings.stages.get u) s.settings.timing :=
  worked_of_entry (entries_eq_some h.1 h.2.1) h.2.2

theorem worked_of_not_taken (h : ¬ takenBy i s u) : worked i.outcome s u = (s.gu.grants.get u, false, false) := by
  refine worked_of_stay ?_
  by_cases he : i.dropped.get u = true ∨ (i.stages.get u).enabled = false
  · exact .inl (entries_eq_none he)
  · simp only [not_or, Bool.not_eq_true, Bool.not_eq_false] at he
    exact .inr (Bool.eq_false_iff.2 fun hon => h ⟨he.1, he.2, hon⟩)

theorem entered_iff : (worked i.outcome s u).2.1 = true ↔ takenBy i s u ∧
    overruns (s.gu.grants.get u) (i.snap.stages.get u).second s.settings.timing ∧ (s.gu.grants.get u).compliance ≠ .enforced := by
  by_cases ht : takenBy i s u
  · rw [worked_of_taken ht]
    by_cases ho : overruns (s.gu.grants.get u) (entryOf i u).second s.settings.timing
    · obtain ⟨-, -, hflag, -⟩ := takeEntry_overruns _ _ (s.settings.stages.get u) _ ho
      exact hflag.trans ⟨fun h => ⟨ht, ho, h⟩, fun h => h.2.2⟩
    · obtain ⟨hflag, -⟩ := takeEntry_judges _ _ (s.settings.stages.get u) _ ho
      exact iff_of_false (by simp [hflag]) fun h => ho h.2.1
  · simp [worked_of_not_taken ht, ht]

theorem lowered_iff : (worked i.outcome s u).2.2 = true ↔
    let g := s.gu.grants.get u
    let h := (takeResult i.outcome s).gu.grants.get u
    takenBy i s u ∧ ¬ overruns g (i.snap.stages.get u).second s.settings.timing ∧ h.c ≠ g.c ∧
      noticesLowering g (withinCeiling h.applied h.c (s.settings.stages.get u).top) h.c g.c := by
  simp only [takeResult_grant]
  by_cases ht : takenBy i s u
  · rw [worked_of_taken ht]
    by_cases ho : overruns (s.gu.grants.get u) (entryOf i u).second s.settings.timing
    · obtain ⟨-, -, -, hflag, -⟩ := takeEntry_overruns _ _ (s.settings.stages.get u) _ ho
      exact iff_of_false (by simp [hflag]) fun h => h.2.1 ho
    · obtain ⟨-, -, -, -, -, hflag⟩ := takeEntry_judges _ _ (s.settings.stages.get u) _ ho
      have happlied : ((s.gu.grants.get u).takeEntry (entryOf i u) (s.settings.stages.get u) s.settings.timing).1.applied =
          (s.gu.grants.get u).applied := by rw [takeEntry_frame]
      rw [happlied]
      exact hflag.trans ⟨fun h => ⟨ht, ho, h⟩, fun h => h.2.2⟩
  · simp [worked_of_not_taken ht, ht]

theorem entryRecords_eq : entryRecords (worked i.outcome s) allStages = (allStages.filter fun u => (worked i.outcome s u).2.1).map
    fun u => .enforcement u .asserted .overrun ((takeResult i.outcome s).gu.grants.get u).c (i.snap.stages.get u).second := by
  refine List.map_congr_left fun u hu => ?_
  have ht := (entered_iff.1 (List.mem_filter.1 hu).2).1
  have hlast : (worked i.outcome s u).1.last = (i.snap.stages.get u).second := by
    rw [worked_of_taken ht, takeEntry_frame]
    rfl
  rw [takeResult_grant, hlast]

theorem loweredNotices_eq : loweredNotices (worked i.outcome s) allStages =
    (allStages.filter fun u => (worked i.outcome s u).2.2).map
      fun u => .lowered u ((takeResult i.outcome s).gu.grants.get u).c := by
  simp only [takeResult_grant]
  rfl

/-- The figures that stay (R132). -/
theorem figures_spec (i : PassInputs) :
    (∀ u, (i.dropped.get u = true ∨ (i.stages.get u).enabled = false → i.outcome.entries.get u = none) ∧
      (i.dropped.get u = false → (i.stages.get u).enabled = true → i.outcome.entries.get u = some (entryOf i u))) ∧
    (i.isOpen = false → i.outcome.points = none) ∧
    (i.isOpen = true → ∃ b, i.outcome.points = some b ∧ ∀ k,
      ((i.snap.points.get k).enabled = false → b.get k = none) ∧
      ((i.snap.points.get k).enabled = true → i.pointAllowance k = none → b.get k = some .unconstrained) ∧
      ∀ c ∈ i.constrained, c.point = k →
        b.get k = some (.constrained ⟨lv c.allowance, c.tier, lv c.background, lv c.available⟩)) := by
  refine ⟨fun u => ⟨entries_eq_none, entries_eq_some⟩, fun h => by simp [PassInputs.outcome, h], fun h => ?_⟩
  refine ⟨Bank.tabulate i.standing, by simp [PassInputs.outcome, h], fun k => ?_⟩
  rw [Bank.get_tabulate]
  refine ⟨fun hoff => by simp [PassInputs.standing, hoff], standing_of_unconstrained, ?_⟩
  rintro c hc rfl
  exact standing_of_constrained hc

end

/-- Settles O46: a waiting snapshot is taken first; then the stages' entries are worked through in stage order. -/
theorem passResultMovesCeilings : Obligations.PassResultMovesCeilings := by
  intro s hon
  have run : ∀ m : State, m.powered = true → exec .passResult m = .next (passResult m) := fun m hm => whenPowered_on passResult hm
  refine ⟨fun snap hp hh => ⟨startPass snap s, startPass_passStarts s snap, ?_⟩, fun hp hh => ?_, fun i hi => ?_⟩
  · rw [run s hon, run _ (by simpa using hon), passResult_of_waiting hp hh]
  · rw [run s hon, passResult_of_none hp hh]
  refine ⟨takeResult i.outcome s, by rw [run s hon, passResult_of_pass hi], rfl, rfl, ⟨figuresOf i, takeResult_ae .., figures_spec i⟩,
    takeResult_frame .., ?_, fun u => ⟨fun h => ?_, fun h => ?_⟩⟩
  · refine ⟨allStages.filter fun u => (worked i.outcome s u).2.1, allStages.filter fun u => (worked i.outcome s u).2.2,
      (filter_allStages _).1, fun u => ((filter_allStages _).2 u).trans entered_iff, (filter_allStages _).1, fun u => ?_, ?_⟩
    · exact ((filter_allStages _).2 u).trans lowered_iff
    · have told := takeResult_tells i.outcome s
      rw [entryRecords_eq, loweredNotices_eq] at told
      exact told
  · rw [takeResult_grant, worked_of_not_taken h]
  · have hu : takenBy i s u := h
    dsimp only
    rw [takeResult_grant, worked_of_taken hu]
    obtain ⟨hc, ht, hk, hl, ha, hf, hs, below, fills, counts, enforced, enters, rest⟩ :=
      takeEntry_spec (s.gu.grants.get u) (entryOf i u) (s.settings.stages.get u) s.settings.timing
    exact ⟨hc, ht, hk, hl, ha, hf, hs, below, fills, counts, enforced, fun hu => enters hu.2.1 hu.2.2, rest⟩

end Sys2Proof.Proofs.PassResult
end

section
/-!
The grant record by itself (07_stage_grants_and_enforcement.md: R143 to R148): what its compliance state asks of timers and applied
value, what an acknowledgement makes of it, and that every step keeps each record lawful.
-/

namespace Sys2Proof.Proofs.Compliance

open Sys2Proof Sys2Proof.Machine
open Sys2Proof.Proofs.StageMoves
open Sys2Proof.Proofs.StageWrite (within_iff judgedAs refit_spec)
open Sys2Proof.Proofs.PassResult (overruns takeEntry_frame takeEntry_overruns takeEntry_judges)

/-! ### What each compliance state asks (R143, R147) -/

section
variable {g : Grant} {q : StageSettings}

theorem lawful_iff_of_disabled (h : g.compliance = .disabled) :
    g.lawful q ↔ q.enabled = false ∧ g.complianceTimer = none ∧ g.holdTimer = none := by
  rw [Grant.lawful, h]

theorem lawful_iff_of_tracking (h : g.compliance = .tracking) :
    g.lawful q ↔ q.enabled = true ∧ g.within q.top = true ∧ g.complianceTimer = none ∧ g.holdTimer = none := by
  rw [Grant.lawful, h]

theorem lawful_iff_of_pending (h : g.compliance = .pending) :
    g.lawful q ↔ q.enabled = true ∧ g.within q.top = false ∧ g.complianceTimer.isSome ∧ g.holdTimer = none := by
  rw [Grant.lawful, h]

theorem lawful_iff_of_enforced (h : g.compliance = .enforced) :
    g.lawful q ↔ q.enabled = true ∧ g.complianceTimer = none ∧ g.holdTimer = none := by
  rw [Grant.lawful, h]

theorem lawful_iff_of_releasing (h : g.compliance = .releasing) :
    g.lawful q ↔ q.enabled = true ∧ g.holdTimer.isSome ∧ (g.complianceTimer = none ↔ g.within q.top = true) := by
  rw [Grant.lawful, h]

/-- A lawful record is DISABLED exactly where its stage is. -/
theorem enabled_iff_of_lawful (hg : g.lawful q) : q.enabled = true ↔ g.compliance ≠ .disabled := by
  cases hc : g.compliance with
  | disabled => simp [((lawful_iff_of_disabled hc).1 hg).1]
  | tracking => simp [((lawful_iff_of_tracking hc).1 hg).1]
  | pending => simp [((lawful_iff_of_pending hc).1 hg).1]
  | enforced => simp [((lawful_iff_of_enforced hc).1 hg).1]
  | releasing => simp [((lawful_iff_of_releasing hc).1 hg).1]

/-- Whether a record is lawful rests on its compliance state, its timers and what the applied value is judged against. -/
theorem lawful_congr {h : Grant} (hc : h.compliance = g.compliance) (ht : h.complianceTimer = g.complianceTimer)
    (hh : h.holdTimer = g.holdTimer) (ha : h.applied = g.applied) (hceil : h.c = g.c) (hg : g.lawful q) : h.lawful q := by
  unfold Grant.lawful Grant.within at *
  rwa [hc, ht, hh, ha, hceil]

/-- An entry into ENFORCED stops both timers. -/
theorem enforce_lawful (hq : q.enabled = true) (why : Cause) : (g.enforce why).lawful q :=
  (lawful_iff_of_enforced rfl).2 ⟨hq, rfl, rfl⟩

/-- A record judged against a new ceiling or top is lawful under them (R146, R147). -/
theorem lawful_of_judgedAs {h : Grant} {new : StageSettings} {deadline : Nat} (hg : g.lawful q) (hq : new.enabled = q.enabled)
    (hold : h.holdTimer = g.holdTimer)
    (settled : g.compliance = .enforced ∨ g.compliance = .disabled →
      h.compliance = g.compliance ∧ h.complianceTimer = g.complianceTimer)
    (judged : judgedAs g h (h.within new.top = true) deadline) : h.lawful new := by
  obtain ⟨trackingIn, trackingOut, pendingIn, pendingOut, releasing⟩ := judged
  cases hc : g.compliance with
  | disabled =>
    obtain ⟨hoff, ht, hh⟩ := (lawful_iff_of_disabled hc).1 hg
    obtain ⟨same, timer⟩ := settled (.inr hc)
    exact (lawful_iff_of_disabled (same.trans hc)).2 ⟨hq.trans hoff, timer.trans ht, hold.trans hh⟩
  | enforced =>
    obtain ⟨hon, ht, hh⟩ := (lawful_iff_of_enforced hc).1 hg
    obtain ⟨same, timer⟩ := settled (.inl hc)
    exact (lawful_iff_of_enforced (same.trans hc)).2 ⟨hq.trans hon, timer.trans ht, hold.trans hh⟩
  | tracking =>
    obtain ⟨hon, -, ht, hh⟩ := (lawful_iff_of_tracking hc).1 hg
    by_cases hw : h.within new.top = true
    · obtain ⟨same, timer⟩ := trackingIn hc hw
      exact (lawful_iff_of_tracking same).2 ⟨hq.trans hon, hw, timer.trans ht, hold.trans hh⟩
    · obtain ⟨lowered, timer⟩ := trackingOut hc hw
      exact (lawful_iff_of_pending lowered).2 ⟨hq.trans hon, Bool.eq_false_iff.2 hw, by simp [timer], hold.trans hh⟩
  | pending =>
    obtain ⟨hon, -, ht, hh⟩ := (lawful_iff_of_pending hc).1 hg
    by_cases hw : h.within new.top = true
    · obtain ⟨raised, timer⟩ := pendingIn hc hw
      exact (lawful_iff_of_tracking raised).2 ⟨hq.trans hon, hw, timer, hold.trans hh⟩
    · obtain ⟨same, timer⟩ := pendingOut hc hw
      exact (lawful_iff_of_pending same).2 ⟨hq.trans hon, Bool.eq_false_iff.2 hw, by rwa [timer], hold.trans hh⟩
  | releasing =>
    obtain ⟨hon, hh, -⟩ := (lawful_iff_of_releasing hc).1 hg
    obtain ⟨same, stops, runs⟩ := releasing hc
    refine (lawful_iff_of_releasing same).2 ⟨hq.trans hon, by rwa [hold], fun ht => ?_, stops⟩
    by_contra hw
    simp [runs hw] at ht

end

/-! ### An acknowledgement (R142, R144, R145) -/

section
variable (g : Grant) (applied top : Nat) (set : Timing)

/-- The condition of R142 for a value just acknowledged. -/
theorem within_applied : ({ g with applied := some applied } : Grant).within top = true ↔ applied ≤ g.c + 50 ∧ applied ≤ top := by
  simp [Grant.within]

theorem acknowledge_of_cannot : g.acknowledge applied true top set =
    ({ g.enforce .cannotComply with applied := some applied },
      if g.compliance = .enforced then none else some .cannotComply, false) := by
  simp [Grant.acknowledge, Grant.enforce, Grant.isEnforced]

variable {g}

theorem acknowledge_of_tracking (h : g.compliance = .tracking) : g.acknowledge applied false top set =
    if applied ≤ g.c + 50 ∧ applied ≤ top then ({ g with applied := some applied }, none, false)
    else ({ g with applied := some applied, compliance := .pending, complianceTimer := some set.deadline }, none, true) := by
  simp only [Grant.acknowledge, Grant.judge, Grant.within, h, Bool.and_eq_true, decide_eq_true_eq, Bool.false_eq_true, if_false]
  split <;> rfl

theorem acknowledge_of_pending (h : g.compliance = .pending) : g.acknowledge applied false top set =
    if applied ≤ g.c + 50 ∧ applied ≤ top then
      ({ g with applied := some applied, compliance := .tracking, complianceTimer := none }, none, false)
    else ({ g with applied := some applied }, none, false) := by
  simp only [Grant.acknowledge, Grant.judge, Grant.within, h, Bool.and_eq_true, decide_eq_true_eq, Bool.false_eq_true, if_false]
  split <;> rfl

theorem acknowledge_of_enforced (h : g.compliance = .enforced) : g.acknowledge applied false top set =
    if applied ≤ g.c + 50 ∧ applied ≤ top then
      ({ g with applied := some applied, compliance := .releasing, holdTimer := some set.holdMinimum }, none, false)
    else ({ g with applied := some applied }, none, false) := by
  simp only [Grant.acknowledge, Grant.judge, Grant.within, h, Bool.and_eq_true, decide_eq_true_eq, Bool.false_eq_true, if_false]
  split <;> rfl

theorem acknowledge_of_releasing (h : g.compliance = .releasing) : g.acknowledge applied false top set =
    if applied ≤ g.c + 50 ∧ applied ≤ top then ({ g with applied := some applied, complianceTimer := none }, none, false)
    else ({ g.enforce .ackTimeout with applied := some applied }, some .ackTimeout, false) := by
  simp only [Grant.acknowledge, Grant.judge, Grant.within, h, Bool.and_eq_true, decide_eq_true_eq, Bool.false_eq_true, if_false]
  split <;> rfl

end

/-! ### What keeps a record lawful -/

section
variable {g : Grant} {q : StageSettings}

theorem acknowledge_lawful (applied : Nat) (cannot : Bool) (set : Timing) (hg : g.lawful q) (hon : g.compliance ≠ .disabled) :
    (g.acknowledge applied cannot q.top set).1.lawful q := by
  have hq := (enabled_iff_of_lawful hg).2 hon
  have good := within_applied g applied q.top
  cases cannot with
  | true =>
    rw [acknowledge_of_cannot]
    exact enforce_lawful (g := { g with applied := some applied }) hq .cannotComply
  | false =>
    cases hc : g.compliance with
    | disabled => exact absurd hc hon
    | tracking =>
      obtain ⟨-, -, ht, hh⟩ := (lawful_iff_of_tracking hc).1 hg
      rw [acknowledge_of_tracking _ _ _ hc]
      split
      case isTrue hw => exact Iff.mpr (lawful_iff_of_tracking hc) ⟨hq, good.2 hw, ht, hh⟩
      case isFalse hw => exact (lawful_iff_of_pending rfl).2 ⟨hq, Bool.eq_false_iff.2 (mt good.1 hw), rfl, hh⟩
    | pending =>
      obtain ⟨-, -, ht, hh⟩ := (lawful_iff_of_pending hc).1 hg
      rw [acknowledge_of_pending _ _ _ hc]
      split
      case isTrue hw => exact (lawful_iff_of_tracking rfl).2 ⟨hq, good.2 hw, rfl, hh⟩
      case isFalse hw => exact Iff.mpr (lawful_iff_of_pending hc) ⟨hq, Bool.eq_false_iff.2 (mt good.1 hw), ht, hh⟩
    | enforced =>
      obtain ⟨-, ht, hh⟩ := (lawful_iff_of_enforced hc).1 hg
      rw [acknowledge_of_enforced _ _ _ hc]
      split
      case isTrue hw => exact (lawful_iff_of_releasing rfl).2 ⟨hq, rfl, iff_of_true ht (good.2 hw)⟩
      case isFalse => exact Iff.mpr (lawful_iff_of_enforced hc) ⟨hq, ht, hh⟩
    | releasing =>
      obtain ⟨-, hh, -⟩ := (lawful_iff_of_releasing hc).1 hg
      rw [acknowledge_of_releasing _ _ _ hc]
      split
      case isTrue hw => exact Iff.mpr (lawful_iff_of_releasing hc) ⟨hq, hh, iff_of_true rfl (good.2 hw)⟩
      case isFalse => exact enforce_lawful (g := { g with applied := some applied }) hq .ackTimeout

/-- A record that takes an entry of a pass result is ENFORCED by an overrun, or is judged where its ceiling changed (R136). -/
theorem takeEntry_lawful (e : PassEntry) (set : Timing) (hg : g.lawful q) (hq : q.enabled = true) :
    (g.takeEntry e q set).1.lawful q := by
  have happlied : (g.takeEntry e q set).1.applied = g.applied := by rw [takeEntry_frame]
  by_cases ho : overruns g e.second set
  · obtain ⟨-, enforced, -, -, enters, stays⟩ := takeEntry_overruns g e q set ho
    refine (lawful_iff_of_enforced enforced).2 ⟨hq, ?_⟩
    by_cases hc : g.compliance = .enforced
    · obtain ⟨-, ht, hh⟩ := (lawful_iff_of_enforced hc).1 hg
      obtain ⟨-, timer, hold⟩ := stays hc
      exact ⟨timer.trans ht, hold.trans hh⟩
    · exact (enters hc).2
  · obtain ⟨-, -, hold, settled, judged, -⟩ := takeEntry_judges g e q set ho
    by_cases hc : (g.takeEntry e q set).1.c = g.c
    · obtain ⟨same, timer⟩ := settled (.inl hc)
      exact lawful_congr same timer hold happlied hc hg
    · refine lawful_of_judgedAs hg rfl hold (fun h => settled (.inr h)) (deadline := set.deadline) ?_
      simpa only [within_iff, happlied] using judged hc

/-- The end of the hold minimum goes by the compliance timer, which runs where the applied value is not within the ceiling
(R148). -/
theorem holdDone_lawful (hg : g.lawful q) (hc : g.compliance = .releasing) :
    ({ g with compliance := if g.complianceTimer.isSome then .pending else .tracking, holdTimer := none } : Grant).lawful q := by
  obtain ⟨hq, -, hw⟩ := (lawful_iff_of_releasing hc).1 hg
  split
  case isTrue ht =>
    have out : ¬ g.within q.top = true := fun h => by simp [hw.2 h] at ht
    exact (lawful_iff_of_pending rfl).2 ⟨hq, Bool.eq_false_iff.2 out, ht, rfl⟩
  case isFalse ht =>
    have stopped : g.complianceTimer = none := by simpa using ht
    exact (lawful_iff_of_tracking rfl).2 ⟨hq, hw.1 stopped, stopped, rfl⟩

theorem grantEdit_lawful {set : Timing} {h : Grant} (hg : g.lawful q) (he : GrantEdit q set g h) : h.lawful q := by
  cases he with
  | takeEntry e hq => exact takeEntry_lawful e set hg hq
  | ackTimeout ht hc =>
    have hon : g.compliance ≠ .disabled := by rcases hc with hc | hc <;> simp [hc]
    exact enforce_lawful ((enabled_iff_of_lawful hg).2 hon) .ackTimeout
  | holdDone ht hc => exact holdDone_lawful hg hc
  | acknowledge applied cannot hon => exact acknowledge_lawful applied cannot set hg hon
  | force b => exact hg

/-- A record refitted to a new floor and top is judged where its ceiling or the top changed (R139). -/
theorem refit_lawful {new : StageSettings} (deadline : Nat) (hg : g.lawful q) (hq : new.enabled = q.enabled) :
    (g.refit q new deadline).1.lawful new := by
  obtain ⟨frame, -, -, settled, judged, -⟩ := refit_spec g q new deadline
  have hold : (g.refit q new deadline).1.holdTimer = g.holdTimer := by rw [frame]
  have happlied : (g.refit q new deadline).1.applied = g.applied := by rw [frame]
  by_cases changed : (g.refit q new deadline).1.c ≠ g.c ∨ new.top ≠ q.top
  · refine lawful_of_judgedAs hg hq hold (fun h => settled (.inr h)) (deadline := deadline) ?_
    simpa only [within_iff, happlied] using judged changed
  · obtain ⟨same, timer⟩ := settled (.inl changed)
    simp only [not_or, not_not] at changed
    obtain ⟨hc, htop⟩ := changed
    have kept := lawful_congr same timer hold happlied hc hg
    unfold Grant.lawful at *
    rwa [hq, htop]

/-- The record that a STAGE_WRITE leaves is lawful for the stage as written (R139, R155, R156). -/
theorem rewrittenGrant_lawful (new : StageSettings) (deadline : Nat) (hg : g.lawful q) :
    (rewrittenGrant g q new deadline).lawful new := by
  unfold rewrittenGrant
  split
  case h_1 hnew => exact (lawful_iff_of_enforced rfl).2 ⟨hnew, rfl, rfl⟩
  case h_2 hnew => exact (lawful_iff_of_disabled rfl).2 ⟨hnew, rfl, rfl⟩
  case h_3 hold hnew =>
    have hc : g.compliance = .disabled := by
      by_contra hc
      simp [(enabled_iff_of_lawful hg).2 hc] at hold
    obtain ⟨-, timers⟩ := (lawful_iff_of_disabled hc).1 hg
    exact Iff.mpr (lawful_iff_of_disabled hc) ⟨hnew, timers⟩
  case h_4 hold hnew => exact refit_lawful deadline hg (hnew.trans hold.symm)

theorem afterReset_lawful (q : StageSettings) : (Grant.afterReset q).lawful q := by
  cases hq : q.enabled with
  | true => exact (lawful_iff_of_enforced (by simp [Grant.afterReset, hq])).2 ⟨hq, rfl, rfl⟩
  | false => exact (lawful_iff_of_disabled (by simp [Grant.afterReset, hq])).2 ⟨hq, rfl, rfl⟩

end

/-! ### The invariant -/

theorem stageMove_keeps_compliance {s t : State} (hmove : StageMove s t) (hs : s.complianceLawful) : t.complianceLawful := by
  cases hmove with
  | calm h =>
    simp only [stageCore, Prod.mk.injEq] at h
    obtain ⟨hstages, -, hgu⟩ := h
    intro u
    have unflagged : ({ s.gu.grants.get u with session := false } : Grant).lawful (s.settings.stages.get u) := hs u
    rw [← congrFun hgu u, ← hstages] at unflagged
    exact unflagged
  | editGrant u g h =>
    intro j
    simp only [State.setGrant_gu, State.setGrant_settings, Bank.get_set]
    split
    case isTrue hj => exact hj ▸ grantEdit_lawful (hs u) h
    case isFalse => exact hs j
  | writeShares x =>
    intro u
    simp only [withStages, Bank.get_renew]
    exact hs u
  | writeStage u params new =>
    intro j
    simp only [State.setGrant_gu, State.setGrant_settings, withStages, Bank.get_set]
    split
    · exact rewrittenGrant_lawful new _ (hs u)
    · exact hs j
  | save => exact hs
  | saved => exact hs
  | restart held grants =>
    intro u
    rw [grants u]
    exact afterReset_lawful _

/-- Settles O17: each compliance state is left or entered with its timers, and each change of ceiling or top is judged. -/
theorem complianceStaysLawful : Obligations.ComplianceStaysLawful :=
  fun _ _ hs => step_keeps stageMove_keeps_compliance hs

end Sys2Proof.Proofs.Compliance
end

section
/-!
The grant unit's timers and requests (07_stage_grants_and_enforcement.md: R142, R144 to R148, R152, R153): each replaces one grant
record, and tells of it by an ENFORCEMENT record with its notice, by a LOWERED notice, or not at all.
-/

namespace Sys2Proof.Proofs.GrantRequests

open Sys2Proof Sys2Proof.Machine
open Sys2Proof.Proofs.PassStart (report_frame tells_nothing tells_from)
open Sys2Proof.Proofs.Reads (serve_payload holdLine_iff)
open Sys2Proof.Proofs.SurveyAndTables (serve_turnDown)
open Sys2Proof.Proofs.StageWrite (report_holdReport_tells)
open Sys2Proof.Proofs.Compliance

/-! ### One grant record is replaced -/

/-- From `s` to `t` stage `u` has the grant record `h`, these records and notices are told, and nothing else changes. -/
def replacesGrant (s t : State) (u : StageId) (h : Grant) (bodies : List RecordBody) (notices : List Notice) : Prop :=
  t.gu = { s.gu with grants := s.gu.grants.set u h } ∧ s.tells t bodies notices ∧ t = { s with gu := t.gu, rr := t.rr, nu := t.nu }

section
variable (s : State) (u : StageId) (h : Grant)

theorem setGrant_replacesGrant : replacesGrant s (s.setGrant u h) u h [] [] := ⟨rfl, tells_nothing rfl rfl, rfl⟩

theorem report_replacesGrant (change : LineChange) (why : Cause) :
    replacesGrant s (report (holdReport u change why h) (s.setGrant u h)) u h [.enforcement u change why h.c h.last]
      [.hold u change why] := by
  refine ⟨by simp, report_holdReport_tells .., ?_⟩
  conv_lhs => rw [report_frame]
  simp [State.setGrant]

theorem post_lowered_replacesGrant : replacesGrant s (post (.lowered u h.c) (s.setGrant u h)) u h [] [.lowered u h.c] :=
  ⟨rfl, tells_from (post_tells _ (s.setGrant u h)) (fun _ _ => rfl) rfl rfl rfl rfl, rfl⟩

end

/-! ### The timers (R146 to R148) -/

/-- Settles O47: a running timer's expiry replaces the record, and a stopped one's leaves the state. -/
theorem grantTimersExpire : Obligations.GrantTimersExpire := by
  intro s u hon
  have compliance : exec (.complianceTimerExpiry u) s = .next (complianceTimerExpiry u s) := whenPowered_on _ hon
  have hold : exec (.holdMinimumExpiry u) s = .next (holdMinimumExpiry u s) := whenPowered_on _ hon
  dsimp only
  refine ⟨fun ht hc => ?_, fun ht => ?_, fun ht hc => ?_, fun ht => ?_⟩
  · refine ⟨_, compliance, ?_⟩
    rw [complianceTimerExpiry, if_pos ⟨Option.isSome_iff_ne_none.2 ht, hc⟩]
    exact report_replacesGrant s u _ .asserted .ackTimeout
  · rw [compliance, complianceTimerExpiry, if_neg (by simp [ht])]
  · have state : (if (s.gu.grants.get u).complianceTimer.isSome then Compliance.pending else .tracking) =
        if (s.gu.grants.get u).complianceTimer = none then .tracking else .pending := by
      cases (s.gu.grants.get u).complianceTimer <;> rfl
    refine ⟨_, hold, ?_⟩
    simp only [holdMinimumExpiry, if_pos (And.intro (Option.isSome_iff_ne_none.2 ht) hc), state]
    split
    · exact setGrant_replacesGrant s u _
    · exact report_replacesGrant s u _ .released .holdMinDone
  · rw [hold, holdMinimumExpiry, if_neg (by simp [ht])]

/-! ### The forced hold (R152, R153) -/

section
variable {k : SlotId} {params : List Byte} {w : State} {u : StageId}

theorem ownerHoldForce_of_read (hr : readIndex 4 params = some u) :
    let g := w.gu.grants.get u
    let h := { g with forced := true }
    ownerHoldForce k params w =
      ok [] (if g.holdLine then w.setGrant u h else report (holdReport u .asserted .forced h) (w.setGrant u h)) := by
  simp only [ownerHoldForce, hr]

theorem ownerHoldUnforce_of_read (hr : readIndex 4 params = some u) :
    let g := w.gu.grants.get u
    let h := { g with forced := false }
    ownerHoldUnforce k params w =
      ok [] (if g.holdLine ∧ ¬ h.holdLine then report (holdReport u .released .unforced h) (w.setGrant u h)
        else w.setGrant u h) := by
  simp only [ownerHoldUnforce, hr]

end

/-- Settles O48: the forced hold is set or cleared, and the line is reported where it changes. -/
theorem holdIsForcedAndFreed : Obligations.HoldIsForcedAndFreed := by
  intro s w k params u hr
  dsimp only
  refine ⟨fun hw => ?_, fun hw => ?_⟩
  all_goals obtain ⟨la, rfl⟩ : ∃ la, w = { s with la := la } := ⟨w.la, taken_eq hw.2.1⟩
  · have answer := serve_payload hw (ownerHoldForce_of_read hr)
    have asserted := holdLine_iff (s.gu.grants.get u)
    refine ⟨fun hline => ⟨_, answer, ?_⟩, fun hpads hforced => ⟨_, answer, ?_⟩⟩
    · rw [if_pos (asserted.2 (or_assoc.1 hline))]
      exact setGrant_replacesGrant _ u _
    · rw [if_neg (mt asserted.1 fun h => (or_assoc.2 h).elim hpads (by simp [hforced]))]
      exact report_replacesGrant _ u _ .asserted .forced
  · have answer := serve_payload hw (ownerHoldUnforce_of_read hr)
    have asserted := holdLine_iff (s.gu.grants.get u)
    have after := holdLine_iff { s.gu.grants.get u with forced := false }
    simp only [Grant.holds, Bool.false_eq_true, or_false] at asserted after
    refine ⟨fun hline => ⟨_, answer, ?_⟩, fun hpads hforced => ⟨_, answer, ?_⟩⟩
    · rw [if_neg fun h => ?_]
      · exact setGrant_replacesGrant _ u _
      · rcases hline with hpads | hforced
        · exact h.2 (after.2 hpads)
        · exact h.2 (after.2 (by simpa [hforced] using asserted.1 h.1))
    · rw [if_pos ⟨asserted.2 (.inr (.inr hforced)), mt after.1 hpads⟩]
      exact report_replacesGrant _ u _ .released .unforced

/-! ### Acknowledgements (R142, R144, R145) -/

/-- The state after an accepted acknowledgement, by the record it leaves, the cause of an entry into ENFORCED, and whether LOWERED
is due. -/
def acknowledged (u : StageId) (h : Grant) (why : Option Cause) (due : Bool) (s : State) : State :=
  postLowered u h due (match why with
    | none => s.setGrant u h
    | some why => report (holdReport u .asserted why h) (s.setGrant u h))

section
variable {k : SlotId} {params : List Byte} {w : State} {u : StageId} {applied : Nat} {cannot : Bool}

theorem ownerGrantAck_of_disabled (hr : readAck params = some (u, applied, cannot))
    (hd : (w.gu.grants.get u).compliance = .disabled) : ownerGrantAck k params w = turnDown (.state .stageDisabled) w := by
  simp only [ownerGrantAck, hr, if_pos hd]

theorem ownerGrantAck_of_enabled (hr : readAck params = some (u, applied, cannot))
    (hd : (w.gu.grants.get u).compliance ≠ .disabled) :
    let x := (w.gu.grants.get u).acknowledge applied cannot (w.settings.stages.get u).top w.settings.timing
    ownerGrantAck k params w = ok (u8 x.1.compliance.code ++ u16 x.1.c) (acknowledged u x.1 x.2.1 x.2.2 w) := by
  simp only [ownerGrantAck, hr, if_neg hd]
  rfl

end

/-- An admitted acknowledgement is answered with the record it leaves, and replaces the stage's record by it. -/
theorem grantAck_replacesGrant {s w : State} {k : SlotId} {params : List Byte} {u : StageId} {applied : Nat} {cannot : Bool}
    {x : Grant × Option Cause × Bool} {bodies : List RecordBody} {notices : List Notice} (hw : s.admits k .grantAck params w)
    (hr : readAck params = some (u, applied, cannot)) (hd : (w.gu.grants.get u).compliance ≠ .disabled)
    (hx : (w.gu.grants.get u).acknowledge applied cannot (w.settings.stages.get u).top w.settings.timing = x)
    (told : replacesGrant w (acknowledged u x.1 x.2.1 x.2.2 w) u x.1 bodies notices) :
    ∃ v, exec (.grantAck params) s = .next (respond k ⟨.ok, u8 x.1.compliance.code ++ u16 x.1.c⟩ v) ∧
      replacesGrant w v u x.1 bodies notices :=
  ⟨_, hx ▸ serve_payload hw (ownerGrantAck_of_enabled hr hd), told⟩

/-- GRANT_ACK is permitted to production slots alone, each for its own stage (R189). -/
theorem grantAck_sender {s w : State} {k : SlotId} {params : List Byte} (hw : s.admits k .grantAck params w) :
    ∃ u, (s.settings.stations.get k).role = .production u ∧ params.head?.map (·.toNat) = some u.1 := by
  obtain ⟨-, -, -, hpermitted, hform⟩ := hw
  cases hrole : (s.settings.stations.get k).role with
  | production u =>
    rw [hrole] at hpermitted
    simp only [permitted, ownStage, Request.ofAny, hform] at hpermitted
    exact ⟨u, rfl, by simpa using hpermitted⟩
  | unassigned => simp [hrole, permitted] at hpermitted
  | authority => simp [hrole, permitted, Request.ofAny, Request.ofOperator, Request.ofAuthority] at hpermitted
  | operator => simp [hrole, permitted, Request.ofAny, Request.ofOperator] at hpermitted
  | observer => simp [hrole, permitted, Request.ofAny, Request.ofObserver] at hpermitted

/-- Settles O49: the compliance states in turn, by whether the value is within the ceiling. -/
theorem acknowledgementIsJudged : Obligations.AcknowledgementIsJudged := by
  intro s w k params hw
  refine ⟨grantAck_sender hw, fun u applied cannot hr => ?_⟩
  obtain ⟨la, rfl⟩ : ∃ la, w = { s with la := la } := ⟨w.la, taken_eq hw.2.1⟩
  dsimp only
  refine ⟨fun hd => serve_turnDown hw (ownerGrantAck_of_disabled hr hd), fun hd hcannot => ?_, fun hcannot => ?_⟩
  · subst hcannot
    refine ⟨fun hc => ?_, fun hc => ?_⟩ <;> refine grantAck_replacesGrant hw hr hd (acknowledge_of_cannot ..) ?_
    · rw [if_pos hc]
      exact setGrant_replacesGrant _ u _
    · rw [if_neg hc]
      exact report_replacesGrant _ u _ .asserted .cannotComply
  · subst hcannot
    refine ⟨fun hc hin => ?_, fun hc hout => ?_, fun hc hin => ?_, fun hc hout => ?_, fun hc hin => ?_, fun hc hout => ?_,
      fun hc hin => ?_, fun hc hout => ?_⟩
    all_goals have hd : (s.gu.grants.get u).compliance ≠ .disabled := by simp [hc]
    · exact grantAck_replacesGrant hw hr hd ((acknowledge_of_tracking _ _ _ hc).trans (if_pos hin)) (setGrant_replacesGrant _ u _)
    · exact grantAck_replacesGrant hw hr hd ((acknowledge_of_tracking _ _ _ hc).trans (if_neg hout)) (post_lowered_replacesGrant _ u _)
    · exact grantAck_replacesGrant hw hr hd ((acknowledge_of_pending _ _ _ hc).trans (if_pos hin)) (setGrant_replacesGrant _ u _)
    · exact grantAck_replacesGrant hw hr hd ((acknowledge_of_pending _ _ _ hc).trans (if_neg hout)) (setGrant_replacesGrant _ u _)
    · exact grantAck_replacesGrant hw hr hd ((acknowledge_of_enforced _ _ _ hc).trans (if_pos hin)) (setGrant_replacesGrant _ u _)
    · exact grantAck_replacesGrant hw hr hd ((acknowledge_of_enforced _ _ _ hc).trans (if_neg hout)) (setGrant_replacesGrant _ u _)
    · exact grantAck_replacesGrant hw hr hd ((acknowledge_of_releasing _ _ _ hc).trans (if_pos hin)) (setGrant_replacesGrant _ u _)
    · exact grantAck_replacesGrant hw hr hd ((acknowledge_of_releasing _ _ _ hc).trans (if_neg hout))
        (report_replacesGrant _ u _ .asserted .ackTimeout)

end Sys2Proof.Proofs.GrantRequests
end
